-- ==== Sys2Proof/Word.lean ====
section
/-! DEFINITION. The two word types of the hardware: 8-bit bytes and 16-bit addresses and pairs (00_scope R7, R12). -/

namespace Sys2Proof

/-- A general register, a memory byte, an operand byte: `REG_W` = 8 bits (R7). -/
abbrev Byte := BitVec 8

/-- A logical address, `PC`, `SP`, a register pair: `ADDR_W` = 16 bits (R7). -/
abbrev Word := BitVec 16

end Sys2Proof
end

