-- ==== Sys2Proof/Syntax.lean ====
section
/-! DEFINITION. The instruction set as a type: one constructor per row of spec/opcode_table.json (256 primary rows,
those with operand bytes first, then 256 extended rows), and the names of the operand fields (30_encoding R122 to R128). -/

namespace Sys2Proof

/-- An 8-bit register that an operand field can name (R123). -/
inductive Reg8 where
  | b | c | d | e | h | l | a
  deriving DecidableEq, Repr

/-- An 8-bit operand (R123): a register, or field value 6, the memory byte at address `HL`. -/
inductive Operand8 where
  | reg (r : Reg8)
  | atHL
  deriving DecidableEq, Repr

/-- `rr[p]` (R124). -/
inductive Pair where
  | bc | de | hl | sp
  deriving DecidableEq, Repr

/-- `rr2[p]` (R125). -/
inductive StackPair where
  | bc | de | hl | af
  deriving DecidableEq, Repr

/-- The indirect addresses of the accumulator loads and stores `00pp0010` and `00pp1010` (R130). -/
inductive Indirect where
  | bc | de | hlInc | hlDec
  deriving DecidableEq, Repr

/-- The conditions (R126). -/
inductive Cond where
  | nz | z | nc | c
  deriving DecidableEq, Repr

/-- The ALU operations (R127). -/
inductive AluOp where
  | add | adc | sub | sbc | and | xor | or | cp
  deriving DecidableEq, Repr

/-- The rotate and shift operations (R128). -/
inductive RotOp where
  | rlc | rrc | rl | rr | sla | sra | swap | srl
  deriving DecidableEq, Repr

/-- The value of a 3-bit field: a bit number (R261) or a restart number (R291). -/
inductive Idx3 where
  | i0 | i1 | i2 | i3 | i4 | i5 | i6 | i7
  deriving DecidableEq, Repr

/-- The value of a 2-bit field (R122). -/
inductive Idx2 where
  | j0 | j1 | j2 | j3
  deriving DecidableEq, Repr

/-- The instructions. A constructor's name is its row's mnemonic, with `at` for the parentheses of a memory operand.
Operands: `n` unsigned byte, `e` signed displacement byte, `nn` word (R129). `prefixCB op2` is the row of the byte
0xCB with its second byte (R306); its words are those of the extended instructions, to which they decode. The eleven
`illegal_` rows are the opcodes that select no instruction (R132). -/
inductive Instr where
  -- the primary rows with operand bytes (R130); they stand first, for Lean's compiler
  | ld_BC_nn (nn : Word)
  | ld_B_n (n : Byte)
  | ld_atNN_SP (nn : Word)
  | ld_C_n (n : Byte)
  | stop (n : Byte)
  | ld_DE_nn (nn : Word)
  | ld_D_n (n : Byte)
  | jr (e : Byte)
  | ld_E_n (n : Byte)
  | jr_NZ (e : Byte)
  | ld_HL_nn (nn : Word)
  | ld_H_n (n : Byte)
  | jr_Z (e : Byte)
  | ld_L_n (n : Byte)
  | jr_NC (e : Byte)
  | ld_SP_nn (nn : Word)
  | ld_atHL_n (n : Byte)
  | jr_C (e : Byte)
  | ld_A_n (n : Byte)
  | jp_NZ (nn : Word)
  | jp (nn : Word)
  | call_NZ (nn : Word)
  | add_A_n (n : Byte)
  | jp_Z (nn : Word)
  | prefixCB (op2 : Byte)
  | call_Z (nn : Word)
  | call (nn : Word)
  | adc_A_n (n : Byte)
  | jp_NC (nn : Word)
  | call_NC (nn : Word)
  | sub_A_n (n : Byte)
  | jp_C (nn : Word)
  | call_C (nn : Word)
  | sbc_A_n (n : Byte)
  | ldh_atN_A (n : Byte)
  | and_A_n (n : Byte)
  | add_SP_e (e : Byte)
  | ld_atNN_A (nn : Word)
  | xor_A_n (n : Byte)
  | ldh_A_atN (n : Byte)
  | or_A_n (n : Byte)
  | ld_HL_SPe (e : Byte)
  | ld_A_atNN (nn : Word)
  | cp_A_n (n : Byte)
  -- the other primary rows (R130)
  | nop
  | ld_atBC_A
  | inc_BC
  | inc_B
  | dec_B
  | rlca
  | add_HL_BC
  | ld_A_atBC
  | dec_BC
  | inc_C
  | dec_C
  | rrca
  | ld_atDE_A
  | inc_DE
  | inc_D
  | dec_D
  | rla
  | add_HL_DE
  | ld_A_atDE
  | dec_DE
  | inc_E
  | dec_E
  | rra
  | ld_atHLinc_A
  | inc_HL
  | inc_H
  | dec_H
  | daa
  | add_HL_HL
  | ld_A_atHLinc
  | dec_HL
  | inc_L
  | dec_L
  | cpl
  | ld_atHLdec_A
  | inc_SP
  | inc_atHL
  | dec_atHL
  | scf
  | add_HL_SP
  | ld_A_atHLdec
  | dec_SP
  | inc_A
  | dec_A
  | ccf
  | ld_B_B
  | ld_B_C
  | ld_B_D
  | ld_B_E
  | ld_B_H
  | ld_B_L
  | ld_B_atHL
  | ld_B_A
  | ld_C_B
  | ld_C_C
  | ld_C_D
  | ld_C_E
  | ld_C_H
  | ld_C_L
  | ld_C_atHL
  | ld_C_A
  | ld_D_B
  | ld_D_C
  | ld_D_D
  | ld_D_E
  | ld_D_H
  | ld_D_L
  | ld_D_atHL
  | ld_D_A
  | ld_E_B
  | ld_E_C
  | ld_E_D
  | ld_E_E
  | ld_E_H
  | ld_E_L
  | ld_E_atHL
  | ld_E_A
  | ld_H_B
  | ld_H_C
  | ld_H_D
  | ld_H_E
  | ld_H_H
  | ld_H_L
  | ld_H_atHL
  | ld_H_A
  | ld_L_B
  | ld_L_C
  | ld_L_D
  | ld_L_E
  | ld_L_H
  | ld_L_L
  | ld_L_atHL
  | ld_L_A
  | ld_atHL_B
  | ld_atHL_C
  | ld_atHL_D
  | ld_atHL_E
  | ld_atHL_H
  | ld_atHL_L
  | halt
  | ld_atHL_A
  | ld_A_B
  | ld_A_C
  | ld_A_D
  | ld_A_E
  | ld_A_H
  | ld_A_L
  | ld_A_atHL
  | ld_A_A
  | add_A_B
  | add_A_C
  | add_A_D
  | add_A_E
  | add_A_H
  | add_A_L
  | add_A_atHL
  | add_A_A
  | adc_A_B
  | adc_A_C
  | adc_A_D
  | adc_A_E
  | adc_A_H
  | adc_A_L
  | adc_A_atHL
  | adc_A_A
  | sub_A_B
  | sub_A_C
  | sub_A_D
  | sub_A_E
  | sub_A_H
  | sub_A_L
  | sub_A_atHL
  | sub_A_A
  | sbc_A_B
  | sbc_A_C
  | sbc_A_D
  | sbc_A_E
  | sbc_A_H
  | sbc_A_L
  | sbc_A_atHL
  | sbc_A_A
  | and_A_B
  | and_A_C
  | and_A_D
  | and_A_E
  | and_A_H
  | and_A_L
  | and_A_atHL
  | and_A_A
  | xor_A_B
  | xor_A_C
  | xor_A_D
  | xor_A_E
  | xor_A_H
  | xor_A_L
  | xor_A_atHL
  | xor_A_A
  | or_A_B
  | or_A_C
  | or_A_D
  | or_A_E
  | or_A_H
  | or_A_L
  | or_A_atHL
  | or_A_A
  | cp_A_B
  | cp_A_C
  | cp_A_D
  | cp_A_E
  | cp_A_H
  | cp_A_L
  | cp_A_atHL
  | cp_A_A
  | ret_NZ
  | pop_BC
  | push_BC
  | rst_00
  | ret_Z
  | ret
  | rst_08
  | ret_NC
  | pop_DE
  | illegal_D3
  | push_DE
  | rst_10
  | ret_C
  | reti
  | illegal_DB
  | illegal_DD
  | rst_18
  | pop_HL
  | ldh_atC_A
  | illegal_E3
  | illegal_E4
  | push_HL
  | rst_20
  | jp_HL
  | illegal_EB
  | illegal_EC
  | illegal_ED
  | rst_28
  | pop_AF
  | ldh_A_atC
  | di
  | illegal_F4
  | push_AF
  | rst_30
  | ld_SP_HL
  | ei
  | illegal_FC
  | illegal_FD
  | rst_38
  -- the extended table (R131)
  | rlc_B
  | rlc_C
  | rlc_D
  | rlc_E
  | rlc_H
  | rlc_L
  | rlc_atHL
  | rlc_A
  | rrc_B
  | rrc_C
  | rrc_D
  | rrc_E
  | rrc_H
  | rrc_L
  | rrc_atHL
  | rrc_A
  | rl_B
  | rl_C
  | rl_D
  | rl_E
  | rl_H
  | rl_L
  | rl_atHL
  | rl_A
  | rr_B
  | rr_C
  | rr_D
  | rr_E
  | rr_H
  | rr_L
  | rr_atHL
  | rr_A
  | sla_B
  | sla_C
  | sla_D
  | sla_E
  | sla_H
  | sla_L
  | sla_atHL
  | sla_A
  | sra_B
  | sra_C
  | sra_D
  | sra_E
  | sra_H
  | sra_L
  | sra_atHL
  | sra_A
  | swap_B
  | swap_C
  | swap_D
  | swap_E
  | swap_H
  | swap_L
  | swap_atHL
  | swap_A
  | srl_B
  | srl_C
  | srl_D
  | srl_E
  | srl_H
  | srl_L
  | srl_atHL
  | srl_A
  | bit0_B
  | bit0_C
  | bit0_D
  | bit0_E
  | bit0_H
  | bit0_L
  | bit0_atHL
  | bit0_A
  | bit1_B
  | bit1_C
  | bit1_D
  | bit1_E
  | bit1_H
  | bit1_L
  | bit1_atHL
  | bit1_A
  | bit2_B
  | bit2_C
  | bit2_D
  | bit2_E
  | bit2_H
  | bit2_L
  | bit2_atHL
  | bit2_A
  | bit3_B
  | bit3_C
  | bit3_D
  | bit3_E
  | bit3_H
  | bit3_L
  | bit3_atHL
  | bit3_A
  | bit4_B
  | bit4_C
  | bit4_D
  | bit4_E
  | bit4_H
  | bit4_L
  | bit4_atHL
  | bit4_A
  | bit5_B
  | bit5_C
  | bit5_D
  | bit5_E
  | bit5_H
  | bit5_L
  | bit5_atHL
  | bit5_A
  | bit6_B
  | bit6_C
  | bit6_D
  | bit6_E
  | bit6_H
  | bit6_L
  | bit6_atHL
  | bit6_A
  | bit7_B
  | bit7_C
  | bit7_D
  | bit7_E
  | bit7_H
  | bit7_L
  | bit7_atHL
  | bit7_A
  | res0_B
  | res0_C
  | res0_D
  | res0_E
  | res0_H
  | res0_L
  | res0_atHL
  | res0_A
  | res1_B
  | res1_C
  | res1_D
  | res1_E
  | res1_H
  | res1_L
  | res1_atHL
  | res1_A
  | res2_B
  | res2_C
  | res2_D
  | res2_E
  | res2_H
  | res2_L
  | res2_atHL
  | res2_A
  | res3_B
  | res3_C
  | res3_D
  | res3_E
  | res3_H
  | res3_L
  | res3_atHL
  | res3_A
  | res4_B
  | res4_C
  | res4_D
  | res4_E
  | res4_H
  | res4_L
  | res4_atHL
  | res4_A
  | res5_B
  | res5_C
  | res5_D
  | res5_E
  | res5_H
  | res5_L
  | res5_atHL
  | res5_A
  | res6_B
  | res6_C
  | res6_D
  | res6_E
  | res6_H
  | res6_L
  | res6_atHL
  | res6_A
  | res7_B
  | res7_C
  | res7_D
  | res7_E
  | res7_H
  | res7_L
  | res7_atHL
  | res7_A
  | set0_B
  | set0_C
  | set0_D
  | set0_E
  | set0_H
  | set0_L
  | set0_atHL
  | set0_A
  | set1_B
  | set1_C
  | set1_D
  | set1_E
  | set1_H
  | set1_L
  | set1_atHL
  | set1_A
  | set2_B
  | set2_C
  | set2_D
  | set2_E
  | set2_H
  | set2_L
  | set2_atHL
  | set2_A
  | set3_B
  | set3_C
  | set3_D
  | set3_E
  | set3_H
  | set3_L
  | set3_atHL
  | set3_A
  | set4_B
  | set4_C
  | set4_D
  | set4_E
  | set4_H
  | set4_L
  | set4_atHL
  | set4_A
  | set5_B
  | set5_C
  | set5_D
  | set5_E
  | set5_H
  | set5_L
  | set5_atHL
  | set5_A
  | set6_B
  | set6_C
  | set6_D
  | set6_E
  | set6_H
  | set6_L
  | set6_atHL
  | set6_A
  | set7_B
  | set7_C
  | set7_D
  | set7_E
  | set7_H
  | set7_L
  | set7_atHL
  | set7_A
  deriving DecidableEq, Repr

end Sys2Proof
end

