-- ==== Sys2Proof/WellFormed.lean ====
section
/-! DEFINITION. Which terms of `Instr` stand for words of their own. Every operand value an operand field admits is
legal (30_encoding R133), so the one check is on the 0xCB row. -/

namespace Sys2Proof

/-- The 0xCB row is not an instruction by itself: the pair of 0xCB and the second byte is the extended instruction
(30_encoding R120, 46_system R306), so a lone `prefixCB` is the encoding of no instruction. -/
def Instr.notBareCB (i : Instr) : Bool :=
  match i with
  | .prefixCB _ => false
  | _ => true

/-- Well-formed: the instruction is the meaning of the words `encode` gives it. -/
def Instr.wellFormed (i : Instr) : Bool := i.notBareCB

end Sys2Proof
end

