-- ==== Sys2Proof/Decode.lean ====
section
/-! DEFINITION. Bytes to instructions and back (30_encoding): the fields of an opcode byte, the two opcode maps as R130
and R131 give them, the decoder, and the encoder written from the table's opcode column. -/

namespace Sys2Proof

/-! ### Bytes and words (R84, R129) -/

/-- The 16-bit value with low byte `lo` and high byte `hi`. -/
def wordOf (lo hi : Byte) : Word := hi ++ lo

def loByte (w : Word) : Byte := w.extractLsb' 0 8

def hiByte (w : Word) : Byte := w.extractLsb' 8 8

/-! ### Fields of an opcode byte (R122) -/

def idx3 (n : Nat) : Idx3 :=
  match n % 8 with
  | 0 => .i0 | 1 => .i1 | 2 => .i2 | 3 => .i3 | 4 => .i4 | 5 => .i5 | 6 => .i6 | _ => .i7

def idx2 (n : Nat) : Idx2 :=
  match n % 4 with
  | 0 => .j0 | 1 => .j1 | 2 => .j2 | _ => .j3

/-- `x = op[7:6]`. -/
def fieldX (op : Byte) : Idx2 := idx2 (op.toNat / 64)
/-- `y = op[5:3]`. -/
def fieldY (op : Byte) : Idx3 := idx3 (op.toNat / 8)
/-- `z = op[2:0]`. -/
def fieldZ (op : Byte) : Idx3 := idx3 op.toNat
/-- `p = op[5:4]`. -/
def fieldP (op : Byte) : Idx2 := idx2 (op.toNat / 16)
/-- `q = op[3]`. -/
def fieldQ (op : Byte) : Bool := op.getLsbD 3
/-- `c = op[4:3]`. -/
def fieldC (op : Byte) : Idx2 := idx2 (op.toNat / 8)

/-! ### What a field value names (R123 to R128) -/

def Idx3.val : Idx3 → Nat
  | .i0 => 0 | .i1 => 1 | .i2 => 2 | .i3 => 3 | .i4 => 4 | .i5 => 5 | .i6 => 6 | .i7 => 7

def operand8Of : Idx3 → Operand8
  | .i0 => .reg .b | .i1 => .reg .c | .i2 => .reg .d | .i3 => .reg .e
  | .i4 => .reg .h | .i5 => .reg .l | .i6 => .atHL | .i7 => .reg .a

def pairOf : Idx2 → Pair
  | .j0 => .bc | .j1 => .de | .j2 => .hl | .j3 => .sp

def stackPairOf : Idx2 → StackPair
  | .j0 => .bc | .j1 => .de | .j2 => .hl | .j3 => .af

def indirectOf : Idx2 → Indirect
  | .j0 => .bc | .j1 => .de | .j2 => .hlInc | .j3 => .hlDec

def condOf : Idx2 → Cond
  | .j0 => .nz | .j1 => .z | .j2 => .nc | .j3 => .c

def aluOpOf : Idx3 → AluOp
  | .i0 => .add | .i1 => .adc | .i2 => .sub | .i3 => .sbc
  | .i4 => .and | .i5 => .xor | .i6 => .or | .i7 => .cp

def rotOpOf : Idx3 → RotOp
  | .i0 => .rlc | .i1 => .rrc | .i2 => .rl | .i3 => .rr
  | .i4 => .sla | .i5 => .sra | .i6 => .swap | .i7 => .srl

/-! ### Families: the table rows of one pattern, by their fields -/

/-- `01dddsss` (R150, R152, R153); both fields 6 is `HALT` (R133). -/
def Instr.ld : Operand8 → Operand8 → Instr
  | .reg .b, .reg .b => .ld_B_B | .reg .b, .reg .c => .ld_B_C | .reg .b, .reg .d => .ld_B_D | .reg .b, .reg .e => .ld_B_E
  | .reg .b, .reg .h => .ld_B_H | .reg .b, .reg .l => .ld_B_L | .reg .b, .atHL => .ld_B_atHL | .reg .b, .reg .a => .ld_B_A
  | .reg .c, .reg .b => .ld_C_B | .reg .c, .reg .c => .ld_C_C | .reg .c, .reg .d => .ld_C_D | .reg .c, .reg .e => .ld_C_E
  | .reg .c, .reg .h => .ld_C_H | .reg .c, .reg .l => .ld_C_L | .reg .c, .atHL => .ld_C_atHL | .reg .c, .reg .a => .ld_C_A
  | .reg .d, .reg .b => .ld_D_B | .reg .d, .reg .c => .ld_D_C | .reg .d, .reg .d => .ld_D_D | .reg .d, .reg .e => .ld_D_E
  | .reg .d, .reg .h => .ld_D_H | .reg .d, .reg .l => .ld_D_L | .reg .d, .atHL => .ld_D_atHL | .reg .d, .reg .a => .ld_D_A
  | .reg .e, .reg .b => .ld_E_B | .reg .e, .reg .c => .ld_E_C | .reg .e, .reg .d => .ld_E_D | .reg .e, .reg .e => .ld_E_E
  | .reg .e, .reg .h => .ld_E_H | .reg .e, .reg .l => .ld_E_L | .reg .e, .atHL => .ld_E_atHL | .reg .e, .reg .a => .ld_E_A
  | .reg .h, .reg .b => .ld_H_B | .reg .h, .reg .c => .ld_H_C | .reg .h, .reg .d => .ld_H_D | .reg .h, .reg .e => .ld_H_E
  | .reg .h, .reg .h => .ld_H_H | .reg .h, .reg .l => .ld_H_L | .reg .h, .atHL => .ld_H_atHL | .reg .h, .reg .a => .ld_H_A
  | .reg .l, .reg .b => .ld_L_B | .reg .l, .reg .c => .ld_L_C | .reg .l, .reg .d => .ld_L_D | .reg .l, .reg .e => .ld_L_E
  | .reg .l, .reg .h => .ld_L_H | .reg .l, .reg .l => .ld_L_L | .reg .l, .atHL => .ld_L_atHL | .reg .l, .reg .a => .ld_L_A
  | .atHL, .reg .b => .ld_atHL_B | .atHL, .reg .c => .ld_atHL_C | .atHL, .reg .d => .ld_atHL_D | .atHL, .reg .e => .ld_atHL_E
  | .atHL, .reg .h => .ld_atHL_H | .atHL, .reg .l => .ld_atHL_L | .atHL, .atHL => .halt | .atHL, .reg .a => .ld_atHL_A
  | .reg .a, .reg .b => .ld_A_B | .reg .a, .reg .c => .ld_A_C | .reg .a, .reg .d => .ld_A_D | .reg .a, .reg .e => .ld_A_E
  | .reg .a, .reg .h => .ld_A_H | .reg .a, .reg .l => .ld_A_L | .reg .a, .atHL => .ld_A_atHL | .reg .a, .reg .a => .ld_A_A

/-- `00ddd110 n` (R151, R154). -/
def Instr.ldImm (n : Byte) : Operand8 → Instr
  | .reg .b => .ld_B_n n | .reg .c => .ld_C_n n | .reg .d => .ld_D_n n | .reg .e => .ld_E_n n
  | .reg .h => .ld_H_n n | .reg .l => .ld_L_n n | .atHL => .ld_atHL_n n | .reg .a => .ld_A_n n

/-- `00rrr100` (R216, R217). -/
def Instr.inc : Operand8 → Instr
  | .reg .b => .inc_B | .reg .c => .inc_C | .reg .d => .inc_D | .reg .e => .inc_E
  | .reg .h => .inc_H | .reg .l => .inc_L | .atHL => .inc_atHL | .reg .a => .inc_A

/-- `00rrr101` (R218, R219). -/
def Instr.dec : Operand8 → Instr
  | .reg .b => .dec_B | .reg .c => .dec_C | .reg .d => .dec_D | .reg .e => .dec_E
  | .reg .h => .dec_H | .reg .l => .dec_L | .atHL => .dec_atHL | .reg .a => .dec_A

/-- `00pp0001 lo hi` (R180). -/
def Instr.ldPair (nn : Word) : Pair → Instr
  | .bc => .ld_BC_nn nn | .de => .ld_DE_nn nn | .hl => .ld_HL_nn nn | .sp => .ld_SP_nn nn

/-- `00pp1001` (R230). -/
def Instr.addHL : Pair → Instr
  | .bc => .add_HL_BC | .de => .add_HL_DE | .hl => .add_HL_HL | .sp => .add_HL_SP

/-- `00pp0011` (R231). -/
def Instr.incPair : Pair → Instr
  | .bc => .inc_BC | .de => .inc_DE | .hl => .inc_HL | .sp => .inc_SP

/-- `00pp1011` (R232). -/
def Instr.decPair : Pair → Instr
  | .bc => .dec_BC | .de => .dec_DE | .hl => .dec_HL | .sp => .dec_SP

/-- `00pp0010` (R157, R158, R165, R166). -/
def Instr.storeA : Indirect → Instr
  | .bc => .ld_atBC_A | .de => .ld_atDE_A | .hlInc => .ld_atHLinc_A | .hlDec => .ld_atHLdec_A

/-- `00pp1010` (R155, R156, R167, R168). -/
def Instr.loadA : Indirect → Instr
  | .bc => .ld_A_atBC | .de => .ld_A_atDE | .hlInc => .ld_A_atHLinc | .hlDec => .ld_A_atHLdec

/-- `10ooosss` (R192 to R214). -/
def Instr.alu : AluOp → Operand8 → Instr
  | .add, .reg .b => .add_A_B | .add, .reg .c => .add_A_C | .add, .reg .d => .add_A_D | .add, .reg .e => .add_A_E
  | .add, .reg .h => .add_A_H | .add, .reg .l => .add_A_L | .add, .atHL => .add_A_atHL | .add, .reg .a => .add_A_A
  | .adc, .reg .b => .adc_A_B | .adc, .reg .c => .adc_A_C | .adc, .reg .d => .adc_A_D | .adc, .reg .e => .adc_A_E
  | .adc, .reg .h => .adc_A_H | .adc, .reg .l => .adc_A_L | .adc, .atHL => .adc_A_atHL | .adc, .reg .a => .adc_A_A
  | .sub, .reg .b => .sub_A_B | .sub, .reg .c => .sub_A_C | .sub, .reg .d => .sub_A_D | .sub, .reg .e => .sub_A_E
  | .sub, .reg .h => .sub_A_H | .sub, .reg .l => .sub_A_L | .sub, .atHL => .sub_A_atHL | .sub, .reg .a => .sub_A_A
  | .sbc, .reg .b => .sbc_A_B | .sbc, .reg .c => .sbc_A_C | .sbc, .reg .d => .sbc_A_D | .sbc, .reg .e => .sbc_A_E
  | .sbc, .reg .h => .sbc_A_H | .sbc, .reg .l => .sbc_A_L | .sbc, .atHL => .sbc_A_atHL | .sbc, .reg .a => .sbc_A_A
  | .and, .reg .b => .and_A_B | .and, .reg .c => .and_A_C | .and, .reg .d => .and_A_D | .and, .reg .e => .and_A_E
  | .and, .reg .h => .and_A_H | .and, .reg .l => .and_A_L | .and, .atHL => .and_A_atHL | .and, .reg .a => .and_A_A
  | .xor, .reg .b => .xor_A_B | .xor, .reg .c => .xor_A_C | .xor, .reg .d => .xor_A_D | .xor, .reg .e => .xor_A_E
  | .xor, .reg .h => .xor_A_H | .xor, .reg .l => .xor_A_L | .xor, .atHL => .xor_A_atHL | .xor, .reg .a => .xor_A_A
  | .or, .reg .b => .or_A_B | .or, .reg .c => .or_A_C | .or, .reg .d => .or_A_D | .or, .reg .e => .or_A_E
  | .or, .reg .h => .or_A_H | .or, .reg .l => .or_A_L | .or, .atHL => .or_A_atHL | .or, .reg .a => .or_A_A
  | .cp, .reg .b => .cp_A_B | .cp, .reg .c => .cp_A_C | .cp, .reg .d => .cp_A_D | .cp, .reg .e => .cp_A_E
  | .cp, .reg .h => .cp_A_H | .cp, .reg .l => .cp_A_L | .cp, .atHL => .cp_A_atHL | .cp, .reg .a => .cp_A_A

/-- `11ooo110 n` (R194 to R215). -/
def Instr.aluImm (n : Byte) : AluOp → Instr
  | .add => .add_A_n n | .adc => .adc_A_n n | .sub => .sub_A_n n | .sbc => .sbc_A_n n
  | .and => .and_A_n n | .xor => .xor_A_n n | .or => .or_A_n n | .cp => .cp_A_n n

/-- `001cc000 e` (R285). -/
def Instr.jrCond (e : Byte) : Cond → Instr
  | .nz => .jr_NZ e | .z => .jr_Z e | .nc => .jr_NC e | .c => .jr_C e

/-- `110cc010 lo hi` (R282). -/
def Instr.jpCond (nn : Word) : Cond → Instr
  | .nz => .jp_NZ nn | .z => .jp_Z nn | .nc => .jp_NC nn | .c => .jp_C nn

/-- `110cc100 lo hi` (R287). -/
def Instr.callCond (nn : Word) : Cond → Instr
  | .nz => .call_NZ nn | .z => .call_Z nn | .nc => .call_NC nn | .c => .call_C nn

/-- `110cc000` (R289). -/
def Instr.retCond : Cond → Instr
  | .nz => .ret_NZ | .z => .ret_Z | .nc => .ret_NC | .c => .ret_C

/-- `11pp0101` (R184). -/
def Instr.push : StackPair → Instr
  | .bc => .push_BC | .de => .push_DE | .hl => .push_HL | .af => .push_AF

/-- `11pp0001` (R185, R186). -/
def Instr.pop : StackPair → Instr
  | .bc => .pop_BC | .de => .pop_DE | .hl => .pop_HL | .af => .pop_AF

/-- `11ttt111` (R291). -/
def Instr.rst : Idx3 → Instr
  | .i0 => .rst_00 | .i1 => .rst_08 | .i2 => .rst_10 | .i3 => .rst_18
  | .i4 => .rst_20 | .i5 => .rst_28 | .i6 => .rst_30 | .i7 => .rst_38

/-- `CB 00ooorrr` (R245 to R260). -/
def Instr.rot : RotOp → Operand8 → Instr
  | .rlc, .reg .b => .rlc_B | .rlc, .reg .c => .rlc_C | .rlc, .reg .d => .rlc_D | .rlc, .reg .e => .rlc_E
  | .rlc, .reg .h => .rlc_H | .rlc, .reg .l => .rlc_L | .rlc, .atHL => .rlc_atHL | .rlc, .reg .a => .rlc_A
  | .rrc, .reg .b => .rrc_B | .rrc, .reg .c => .rrc_C | .rrc, .reg .d => .rrc_D | .rrc, .reg .e => .rrc_E
  | .rrc, .reg .h => .rrc_H | .rrc, .reg .l => .rrc_L | .rrc, .atHL => .rrc_atHL | .rrc, .reg .a => .rrc_A
  | .rl, .reg .b => .rl_B | .rl, .reg .c => .rl_C | .rl, .reg .d => .rl_D | .rl, .reg .e => .rl_E
  | .rl, .reg .h => .rl_H | .rl, .reg .l => .rl_L | .rl, .atHL => .rl_atHL | .rl, .reg .a => .rl_A
  | .rr, .reg .b => .rr_B | .rr, .reg .c => .rr_C | .rr, .reg .d => .rr_D | .rr, .reg .e => .rr_E
  | .rr, .reg .h => .rr_H | .rr, .reg .l => .rr_L | .rr, .atHL => .rr_atHL | .rr, .reg .a => .rr_A
  | .sla, .reg .b => .sla_B | .sla, .reg .c => .sla_C | .sla, .reg .d => .sla_D | .sla, .reg .e => .sla_E
  | .sla, .reg .h => .sla_H | .sla, .reg .l => .sla_L | .sla, .atHL => .sla_atHL | .sla, .reg .a => .sla_A
  | .sra, .reg .b => .sra_B | .sra, .reg .c => .sra_C | .sra, .reg .d => .sra_D | .sra, .reg .e => .sra_E
  | .sra, .reg .h => .sra_H | .sra, .reg .l => .sra_L | .sra, .atHL => .sra_atHL | .sra, .reg .a => .sra_A
  | .swap, .reg .b => .swap_B | .swap, .reg .c => .swap_C | .swap, .reg .d => .swap_D | .swap, .reg .e => .swap_E
  | .swap, .reg .h => .swap_H | .swap, .reg .l => .swap_L | .swap, .atHL => .swap_atHL | .swap, .reg .a => .swap_A
  | .srl, .reg .b => .srl_B | .srl, .reg .c => .srl_C | .srl, .reg .d => .srl_D | .srl, .reg .e => .srl_E
  | .srl, .reg .h => .srl_H | .srl, .reg .l => .srl_L | .srl, .atHL => .srl_atHL | .srl, .reg .a => .srl_A

/-- `CB 01bbbrrr` (R261, R262). -/
def Instr.bit : Idx3 → Operand8 → Instr
  | .i0, .reg .b => .bit0_B | .i0, .reg .c => .bit0_C | .i0, .reg .d => .bit0_D | .i0, .reg .e => .bit0_E
  | .i0, .reg .h => .bit0_H | .i0, .reg .l => .bit0_L | .i0, .atHL => .bit0_atHL | .i0, .reg .a => .bit0_A
  | .i1, .reg .b => .bit1_B | .i1, .reg .c => .bit1_C | .i1, .reg .d => .bit1_D | .i1, .reg .e => .bit1_E
  | .i1, .reg .h => .bit1_H | .i1, .reg .l => .bit1_L | .i1, .atHL => .bit1_atHL | .i1, .reg .a => .bit1_A
  | .i2, .reg .b => .bit2_B | .i2, .reg .c => .bit2_C | .i2, .reg .d => .bit2_D | .i2, .reg .e => .bit2_E
  | .i2, .reg .h => .bit2_H | .i2, .reg .l => .bit2_L | .i2, .atHL => .bit2_atHL | .i2, .reg .a => .bit2_A
  | .i3, .reg .b => .bit3_B | .i3, .reg .c => .bit3_C | .i3, .reg .d => .bit3_D | .i3, .reg .e => .bit3_E
  | .i3, .reg .h => .bit3_H | .i3, .reg .l => .bit3_L | .i3, .atHL => .bit3_atHL | .i3, .reg .a => .bit3_A
  | .i4, .reg .b => .bit4_B | .i4, .reg .c => .bit4_C | .i4, .reg .d => .bit4_D | .i4, .reg .e => .bit4_E
  | .i4, .reg .h => .bit4_H | .i4, .reg .l => .bit4_L | .i4, .atHL => .bit4_atHL | .i4, .reg .a => .bit4_A
  | .i5, .reg .b => .bit5_B | .i5, .reg .c => .bit5_C | .i5, .reg .d => .bit5_D | .i5, .reg .e => .bit5_E
  | .i5, .reg .h => .bit5_H | .i5, .reg .l => .bit5_L | .i5, .atHL => .bit5_atHL | .i5, .reg .a => .bit5_A
  | .i6, .reg .b => .bit6_B | .i6, .reg .c => .bit6_C | .i6, .reg .d => .bit6_D | .i6, .reg .e => .bit6_E
  | .i6, .reg .h => .bit6_H | .i6, .reg .l => .bit6_L | .i6, .atHL => .bit6_atHL | .i6, .reg .a => .bit6_A
  | .i7, .reg .b => .bit7_B | .i7, .reg .c => .bit7_C | .i7, .reg .d => .bit7_D | .i7, .reg .e => .bit7_E
  | .i7, .reg .h => .bit7_H | .i7, .reg .l => .bit7_L | .i7, .atHL => .bit7_atHL | .i7, .reg .a => .bit7_A

/-- `CB 10bbbrrr` (R263, R264). -/
def Instr.res : Idx3 → Operand8 → Instr
  | .i0, .reg .b => .res0_B | .i0, .reg .c => .res0_C | .i0, .reg .d => .res0_D | .i0, .reg .e => .res0_E
  | .i0, .reg .h => .res0_H | .i0, .reg .l => .res0_L | .i0, .atHL => .res0_atHL | .i0, .reg .a => .res0_A
  | .i1, .reg .b => .res1_B | .i1, .reg .c => .res1_C | .i1, .reg .d => .res1_D | .i1, .reg .e => .res1_E
  | .i1, .reg .h => .res1_H | .i1, .reg .l => .res1_L | .i1, .atHL => .res1_atHL | .i1, .reg .a => .res1_A
  | .i2, .reg .b => .res2_B | .i2, .reg .c => .res2_C | .i2, .reg .d => .res2_D | .i2, .reg .e => .res2_E
  | .i2, .reg .h => .res2_H | .i2, .reg .l => .res2_L | .i2, .atHL => .res2_atHL | .i2, .reg .a => .res2_A
  | .i3, .reg .b => .res3_B | .i3, .reg .c => .res3_C | .i3, .reg .d => .res3_D | .i3, .reg .e => .res3_E
  | .i3, .reg .h => .res3_H | .i3, .reg .l => .res3_L | .i3, .atHL => .res3_atHL | .i3, .reg .a => .res3_A
  | .i4, .reg .b => .res4_B | .i4, .reg .c => .res4_C | .i4, .reg .d => .res4_D | .i4, .reg .e => .res4_E
  | .i4, .reg .h => .res4_H | .i4, .reg .l => .res4_L | .i4, .atHL => .res4_atHL | .i4, .reg .a => .res4_A
  | .i5, .reg .b => .res5_B | .i5, .reg .c => .res5_C | .i5, .reg .d => .res5_D | .i5, .reg .e => .res5_E
  | .i5, .reg .h => .res5_H | .i5, .reg .l => .res5_L | .i5, .atHL => .res5_atHL | .i5, .reg .a => .res5_A
  | .i6, .reg .b => .res6_B | .i6, .reg .c => .res6_C | .i6, .reg .d => .res6_D | .i6, .reg .e => .res6_E
  | .i6, .reg .h => .res6_H | .i6, .reg .l => .res6_L | .i6, .atHL => .res6_atHL | .i6, .reg .a => .res6_A
  | .i7, .reg .b => .res7_B | .i7, .reg .c => .res7_C | .i7, .reg .d => .res7_D | .i7, .reg .e => .res7_E
  | .i7, .reg .h => .res7_H | .i7, .reg .l => .res7_L | .i7, .atHL => .res7_atHL | .i7, .reg .a => .res7_A

/-- `CB 11bbbrrr` (R265, R266). -/
def Instr.set : Idx3 → Operand8 → Instr
  | .i0, .reg .b => .set0_B | .i0, .reg .c => .set0_C | .i0, .reg .d => .set0_D | .i0, .reg .e => .set0_E
  | .i0, .reg .h => .set0_H | .i0, .reg .l => .set0_L | .i0, .atHL => .set0_atHL | .i0, .reg .a => .set0_A
  | .i1, .reg .b => .set1_B | .i1, .reg .c => .set1_C | .i1, .reg .d => .set1_D | .i1, .reg .e => .set1_E
  | .i1, .reg .h => .set1_H | .i1, .reg .l => .set1_L | .i1, .atHL => .set1_atHL | .i1, .reg .a => .set1_A
  | .i2, .reg .b => .set2_B | .i2, .reg .c => .set2_C | .i2, .reg .d => .set2_D | .i2, .reg .e => .set2_E
  | .i2, .reg .h => .set2_H | .i2, .reg .l => .set2_L | .i2, .atHL => .set2_atHL | .i2, .reg .a => .set2_A
  | .i3, .reg .b => .set3_B | .i3, .reg .c => .set3_C | .i3, .reg .d => .set3_D | .i3, .reg .e => .set3_E
  | .i3, .reg .h => .set3_H | .i3, .reg .l => .set3_L | .i3, .atHL => .set3_atHL | .i3, .reg .a => .set3_A
  | .i4, .reg .b => .set4_B | .i4, .reg .c => .set4_C | .i4, .reg .d => .set4_D | .i4, .reg .e => .set4_E
  | .i4, .reg .h => .set4_H | .i4, .reg .l => .set4_L | .i4, .atHL => .set4_atHL | .i4, .reg .a => .set4_A
  | .i5, .reg .b => .set5_B | .i5, .reg .c => .set5_C | .i5, .reg .d => .set5_D | .i5, .reg .e => .set5_E
  | .i5, .reg .h => .set5_H | .i5, .reg .l => .set5_L | .i5, .atHL => .set5_atHL | .i5, .reg .a => .set5_A
  | .i6, .reg .b => .set6_B | .i6, .reg .c => .set6_C | .i6, .reg .d => .set6_D | .i6, .reg .e => .set6_E
  | .i6, .reg .h => .set6_H | .i6, .reg .l => .set6_L | .i6, .atHL => .set6_atHL | .i6, .reg .a => .set6_A
  | .i7, .reg .b => .set7_B | .i7, .reg .c => .set7_C | .i7, .reg .d => .set7_D | .i7, .reg .e => .set7_E
  | .i7, .reg .h => .set7_H | .i7, .reg .l => .set7_L | .i7, .atHL => .set7_atHL | .i7, .reg .a => .set7_A

/-! ### The two opcode maps -/

/-- The extended table (R131): the instruction of the byte after 0xCB. -/
def decodeExtended (op : Byte) : Instr :=
  match fieldX op with
  | .j0 => .rot (rotOpOf (fieldY op)) (operand8Of (fieldZ op))
  | .j1 => .bit (fieldY op) (operand8Of (fieldZ op))
  | .j2 => .res (fieldY op) (operand8Of (fieldZ op))
  | .j3 => .set (fieldY op) (operand8Of (fieldZ op))

/-- The primary rows with `x = 0` (R130); `b1`, `b2` are the bytes after the opcode. -/
def decodeX0 (op b1 b2 : Byte) : Instr :=
  match fieldZ op with
  | .i0 =>
    match fieldY op with
    | .i0 => .nop
    | .i1 => .ld_atNN_SP (wordOf b1 b2)
    | .i2 => .stop b1
    | .i3 => .jr b1
    | .i4 | .i5 | .i6 | .i7 => .jrCond b1 (condOf (fieldC op))
  | .i1 => if fieldQ op then .addHL (pairOf (fieldP op)) else .ldPair (wordOf b1 b2) (pairOf (fieldP op))
  | .i2 => if fieldQ op then .loadA (indirectOf (fieldP op)) else .storeA (indirectOf (fieldP op))
  | .i3 => if fieldQ op then .decPair (pairOf (fieldP op)) else .incPair (pairOf (fieldP op))
  | .i4 => .inc (operand8Of (fieldY op))
  | .i5 => .dec (operand8Of (fieldY op))
  | .i6 => .ldImm b1 (operand8Of (fieldY op))
  | .i7 =>
    match fieldY op with
    | .i0 => .rlca | .i1 => .rrca | .i2 => .rla | .i3 => .rra
    | .i4 => .daa | .i5 => .cpl | .i6 => .scf | .i7 => .ccf

/-- The primary rows with `x = 3` (R130), the illegal opcodes (R132) among them. -/
def decodeX3 (op b1 b2 : Byte) : Instr :=
  match fieldZ op with
  | .i0 =>
    match fieldY op with
    | .i0 | .i1 | .i2 | .i3 => .retCond (condOf (fieldC op))
    | .i4 => .ldh_atN_A b1
    | .i5 => .add_SP_e b1
    | .i6 => .ldh_A_atN b1
    | .i7 => .ld_HL_SPe b1
  | .i1 =>
    if fieldQ op then
      match fieldP op with
      | .j0 => .ret | .j1 => .reti | .j2 => .jp_HL | .j3 => .ld_SP_HL
    else .pop (stackPairOf (fieldP op))
  | .i2 =>
    match fieldY op with
    | .i0 | .i1 | .i2 | .i3 => .jpCond (wordOf b1 b2) (condOf (fieldC op))
    | .i4 => .ldh_atC_A
    | .i5 => .ld_atNN_A (wordOf b1 b2)
    | .i6 => .ldh_A_atC
    | .i7 => .ld_A_atNN (wordOf b1 b2)
  | .i3 =>
    match fieldY op with
    | .i0 => .jp (wordOf b1 b2)
    | .i1 => decodeExtended b1
    | .i2 => .illegal_D3 | .i3 => .illegal_DB | .i4 => .illegal_E3 | .i5 => .illegal_EB
    | .i6 => .di | .i7 => .ei
  | .i4 =>
    match fieldY op with
    | .i0 | .i1 | .i2 | .i3 => .callCond (wordOf b1 b2) (condOf (fieldC op))
    | .i4 => .illegal_E4 | .i5 => .illegal_EC | .i6 => .illegal_F4 | .i7 => .illegal_FC
  | .i5 =>
    if fieldQ op then
      match fieldP op with
      | .j0 => .call (wordOf b1 b2) | .j1 => .illegal_DD | .j2 => .illegal_ED | .j3 => .illegal_FD
    else .push (stackPairOf (fieldP op))
  | .i6 => .aluImm b1 (aluOpOf (fieldY op))
  | .i7 => .rst (fieldY op)

/-- The instruction whose first byte is `op` and whose following bytes, as far as it has them, are `b1` and `b2`
(R120, R130). Every byte value selects a row, so this is total. -/
def decodeAt (op b1 b2 : Byte) : Instr :=
  match fieldX op with
  | .j0 => decodeX0 op b1 b2
  | .j1 => .ld (operand8Of (fieldY op)) (operand8Of (fieldZ op))
  | .j2 => .alu (aluOpOf (fieldY op)) (operand8Of (fieldZ op))
  | .j3 => decodeX3 op b1 b2

/-! ### Lengths and base costs (R120, R134): the `length` and `cycles` columns of the table, by opcode byte. An entry
the table leaves null (an illegal opcode, the cost of the byte 0xCB) is 0 here and is used by nothing. -/

/-- The `length` of each primary opcode. -/
def primaryLengths : List Nat :=
  [1, 3, 1, 1, 1, 1, 2, 1, 3, 1, 1, 1, 1, 1, 2, 1] ++
  [2, 3, 1, 1, 1, 1, 2, 1, 2, 1, 1, 1, 1, 1, 2, 1] ++
  [2, 3, 1, 1, 1, 1, 2, 1, 2, 1, 1, 1, 1, 1, 2, 1] ++
  [2, 3, 1, 1, 1, 1, 2, 1, 2, 1, 1, 1, 1, 1, 2, 1] ++
  [1, 1, 1, 1, 1, 1, 1, 1, 1, 1, 1, 1, 1, 1, 1, 1] ++
  [1, 1, 1, 1, 1, 1, 1, 1, 1, 1, 1, 1, 1, 1, 1, 1] ++
  [1, 1, 1, 1, 1, 1, 1, 1, 1, 1, 1, 1, 1, 1, 1, 1] ++
  [1, 1, 1, 1, 1, 1, 1, 1, 1, 1, 1, 1, 1, 1, 1, 1] ++
  [1, 1, 1, 1, 1, 1, 1, 1, 1, 1, 1, 1, 1, 1, 1, 1] ++
  [1, 1, 1, 1, 1, 1, 1, 1, 1, 1, 1, 1, 1, 1, 1, 1] ++
  [1, 1, 1, 1, 1, 1, 1, 1, 1, 1, 1, 1, 1, 1, 1, 1] ++
  [1, 1, 1, 1, 1, 1, 1, 1, 1, 1, 1, 1, 1, 1, 1, 1] ++
  [1, 1, 3, 3, 3, 1, 2, 1, 1, 1, 3, 2, 3, 3, 2, 1] ++
  [1, 1, 3, 0, 3, 1, 2, 1, 1, 1, 3, 0, 3, 0, 2, 1] ++
  [2, 1, 1, 0, 0, 1, 2, 1, 2, 1, 3, 0, 0, 0, 2, 1] ++
  [2, 1, 1, 1, 0, 1, 2, 1, 2, 1, 3, 1, 0, 0, 2, 1]

/-- The `cycles` of each primary opcode. -/
def primaryCycles : List Nat :=
  [4, 12, 8, 8, 4, 4, 8, 4, 20, 8, 8, 8, 4, 4, 8, 4] ++
  [4, 12, 8, 8, 4, 4, 8, 4, 12, 8, 8, 8, 4, 4, 8, 4] ++
  [8, 12, 8, 8, 4, 4, 8, 4, 8, 8, 8, 8, 4, 4, 8, 4] ++
  [8, 12, 8, 8, 12, 12, 12, 4, 8, 8, 8, 8, 4, 4, 8, 4] ++
  [4, 4, 4, 4, 4, 4, 8, 4, 4, 4, 4, 4, 4, 4, 8, 4] ++
  [4, 4, 4, 4, 4, 4, 8, 4, 4, 4, 4, 4, 4, 4, 8, 4] ++
  [4, 4, 4, 4, 4, 4, 8, 4, 4, 4, 4, 4, 4, 4, 8, 4] ++
  [8, 8, 8, 8, 8, 8, 4, 8, 4, 4, 4, 4, 4, 4, 8, 4] ++
  [4, 4, 4, 4, 4, 4, 8, 4, 4, 4, 4, 4, 4, 4, 8, 4] ++
  [4, 4, 4, 4, 4, 4, 8, 4, 4, 4, 4, 4, 4, 4, 8, 4] ++
  [4, 4, 4, 4, 4, 4, 8, 4, 4, 4, 4, 4, 4, 4, 8, 4] ++
  [4, 4, 4, 4, 4, 4, 8, 4, 4, 4, 4, 4, 4, 4, 8, 4] ++
  [8, 12, 12, 16, 12, 16, 8, 16, 8, 16, 12, 0, 12, 24, 8, 16] ++
  [8, 12, 12, 0, 12, 16, 8, 16, 8, 16, 12, 0, 12, 0, 8, 16] ++
  [12, 12, 8, 0, 0, 16, 8, 16, 16, 4, 16, 0, 0, 0, 8, 16] ++
  [12, 12, 8, 4, 0, 16, 8, 16, 12, 8, 16, 4, 0, 0, 8, 16]

/-- The `cycles` of each extended opcode, for the whole two-byte instruction (R131). -/
def extendedCycles : List Nat :=
  [8, 8, 8, 8, 8, 8, 16, 8, 8, 8, 8, 8, 8, 8, 16, 8] ++
  [8, 8, 8, 8, 8, 8, 16, 8, 8, 8, 8, 8, 8, 8, 16, 8] ++
  [8, 8, 8, 8, 8, 8, 16, 8, 8, 8, 8, 8, 8, 8, 16, 8] ++
  [8, 8, 8, 8, 8, 8, 16, 8, 8, 8, 8, 8, 8, 8, 16, 8] ++
  [8, 8, 8, 8, 8, 8, 12, 8, 8, 8, 8, 8, 8, 8, 12, 8] ++
  [8, 8, 8, 8, 8, 8, 12, 8, 8, 8, 8, 8, 8, 8, 12, 8] ++
  [8, 8, 8, 8, 8, 8, 12, 8, 8, 8, 8, 8, 8, 8, 12, 8] ++
  [8, 8, 8, 8, 8, 8, 12, 8, 8, 8, 8, 8, 8, 8, 12, 8] ++
  [8, 8, 8, 8, 8, 8, 16, 8, 8, 8, 8, 8, 8, 8, 16, 8] ++
  [8, 8, 8, 8, 8, 8, 16, 8, 8, 8, 8, 8, 8, 8, 16, 8] ++
  [8, 8, 8, 8, 8, 8, 16, 8, 8, 8, 8, 8, 8, 8, 16, 8] ++
  [8, 8, 8, 8, 8, 8, 16, 8, 8, 8, 8, 8, 8, 8, 16, 8] ++
  [8, 8, 8, 8, 8, 8, 16, 8, 8, 8, 8, 8, 8, 8, 16, 8] ++
  [8, 8, 8, 8, 8, 8, 16, 8, 8, 8, 8, 8, 8, 8, 16, 8] ++
  [8, 8, 8, 8, 8, 8, 16, 8, 8, 8, 8, 8, 8, 8, 16, 8] ++
  [8, 8, 8, 8, 8, 8, 16, 8, 8, 8, 8, 8, 8, 8, 16, 8]

def lengthOf (op : Byte) : Nat := primaryLengths.getD op.toNat 0

/-! ### The decoder on bytes -/

/-- Why a list of bytes is no instruction: it ends inside one (R120). Every complete one decodes. -/
inductive DecodeError where
  | noBytes
  | truncated (op : Byte)
  deriving DecidableEq, Repr

/-- The instruction at the head of a list of bytes, and the rest of the list. An illegal opcode takes its one byte. -/
def decode (bytes : List Byte) : Except DecodeError (Instr × List Byte) :=
  match bytes with
  | [] => .error .noBytes
  | op :: rest =>
    match lengthOf op, rest with
    | 2, b1 :: rest' => .ok (decodeAt op b1 0, rest')
    | 3, b1 :: b2 :: rest' => .ok (decodeAt op b1 b2, rest')
    | 2, _ => .error (.truncated op)
    | 3, _ => .error (.truncated op)
    | _, _ => .ok (decodeAt op 0 0, rest)

/-! ### The encoder: the opcode column of R130 and R131, the operand bytes in the order of R121 -/

/-- The bytes of an instruction, in ascending address order. -/
def encode (i : Instr) : List Byte :=
  match i with
  | .nop => [0x00]
  | .ld_BC_nn nn => [0x01, loByte nn, hiByte nn]
  | .ld_atBC_A => [0x02]
  | .inc_BC => [0x03]
  | .inc_B => [0x04]
  | .dec_B => [0x05]
  | .ld_B_n n => [0x06, n]
  | .rlca => [0x07]
  | .ld_atNN_SP nn => [0x08, loByte nn, hiByte nn]
  | .add_HL_BC => [0x09]
  | .ld_A_atBC => [0x0A]
  | .dec_BC => [0x0B]
  | .inc_C => [0x0C]
  | .dec_C => [0x0D]
  | .ld_C_n n => [0x0E, n]
  | .rrca => [0x0F]
  | .stop n => [0x10, n]
  | .ld_DE_nn nn => [0x11, loByte nn, hiByte nn]
  | .ld_atDE_A => [0x12]
  | .inc_DE => [0x13]
  | .inc_D => [0x14]
  | .dec_D => [0x15]
  | .ld_D_n n => [0x16, n]
  | .rla => [0x17]
  | .jr e => [0x18, e]
  | .add_HL_DE => [0x19]
  | .ld_A_atDE => [0x1A]
  | .dec_DE => [0x1B]
  | .inc_E => [0x1C]
  | .dec_E => [0x1D]
  | .ld_E_n n => [0x1E, n]
  | .rra => [0x1F]
  | .jr_NZ e => [0x20, e]
  | .ld_HL_nn nn => [0x21, loByte nn, hiByte nn]
  | .ld_atHLinc_A => [0x22]
  | .inc_HL => [0x23]
  | .inc_H => [0x24]
  | .dec_H => [0x25]
  | .ld_H_n n => [0x26, n]
  | .daa => [0x27]
  | .jr_Z e => [0x28, e]
  | .add_HL_HL => [0x29]
  | .ld_A_atHLinc => [0x2A]
  | .dec_HL => [0x2B]
  | .inc_L => [0x2C]
  | .dec_L => [0x2D]
  | .ld_L_n n => [0x2E, n]
  | .cpl => [0x2F]
  | .jr_NC e => [0x30, e]
  | .ld_SP_nn nn => [0x31, loByte nn, hiByte nn]
  | .ld_atHLdec_A => [0x32]
  | .inc_SP => [0x33]
  | .inc_atHL => [0x34]
  | .dec_atHL => [0x35]
  | .ld_atHL_n n => [0x36, n]
  | .scf => [0x37]
  | .jr_C e => [0x38, e]
  | .add_HL_SP => [0x39]
  | .ld_A_atHLdec => [0x3A]
  | .dec_SP => [0x3B]
  | .inc_A => [0x3C]
  | .dec_A => [0x3D]
  | .ld_A_n n => [0x3E, n]
  | .ccf => [0x3F]
  | .ld_B_B => [0x40]
  | .ld_B_C => [0x41]
  | .ld_B_D => [0x42]
  | .ld_B_E => [0x43]
  | .ld_B_H => [0x44]
  | .ld_B_L => [0x45]
  | .ld_B_atHL => [0x46]
  | .ld_B_A => [0x47]
  | .ld_C_B => [0x48]
  | .ld_C_C => [0x49]
  | .ld_C_D => [0x4A]
  | .ld_C_E => [0x4B]
  | .ld_C_H => [0x4C]
  | .ld_C_L => [0x4D]
  | .ld_C_atHL => [0x4E]
  | .ld_C_A => [0x4F]
  | .ld_D_B => [0x50]
  | .ld_D_C => [0x51]
  | .ld_D_D => [0x52]
  | .ld_D_E => [0x53]
  | .ld_D_H => [0x54]
  | .ld_D_L => [0x55]
  | .ld_D_atHL => [0x56]
  | .ld_D_A => [0x57]
  | .ld_E_B => [0x58]
  | .ld_E_C => [0x59]
  | .ld_E_D => [0x5A]
  | .ld_E_E => [0x5B]
  | .ld_E_H => [0x5C]
  | .ld_E_L => [0x5D]
  | .ld_E_atHL => [0x5E]
  | .ld_E_A => [0x5F]
  | .ld_H_B => [0x60]
  | .ld_H_C => [0x61]
  | .ld_H_D => [0x62]
  | .ld_H_E => [0x63]
  | .ld_H_H => [0x64]
  | .ld_H_L => [0x65]
  | .ld_H_atHL => [0x66]
  | .ld_H_A => [0x67]
  | .ld_L_B => [0x68]
  | .ld_L_C => [0x69]
  | .ld_L_D => [0x6A]
  | .ld_L_E => [0x6B]
  | .ld_L_H => [0x6C]
  | .ld_L_L => [0x6D]
  | .ld_L_atHL => [0x6E]
  | .ld_L_A => [0x6F]
  | .ld_atHL_B => [0x70]
  | .ld_atHL_C => [0x71]
  | .ld_atHL_D => [0x72]
  | .ld_atHL_E => [0x73]
  | .ld_atHL_H => [0x74]
  | .ld_atHL_L => [0x75]
  | .halt => [0x76]
  | .ld_atHL_A => [0x77]
  | .ld_A_B => [0x78]
  | .ld_A_C => [0x79]
  | .ld_A_D => [0x7A]
  | .ld_A_E => [0x7B]
  | .ld_A_H => [0x7C]
  | .ld_A_L => [0x7D]
  | .ld_A_atHL => [0x7E]
  | .ld_A_A => [0x7F]
  | .add_A_B => [0x80]
  | .add_A_C => [0x81]
  | .add_A_D => [0x82]
  | .add_A_E => [0x83]
  | .add_A_H => [0x84]
  | .add_A_L => [0x85]
  | .add_A_atHL => [0x86]
  | .add_A_A => [0x87]
  | .adc_A_B => [0x88]
  | .adc_A_C => [0x89]
  | .adc_A_D => [0x8A]
  | .adc_A_E => [0x8B]
  | .adc_A_H => [0x8C]
  | .adc_A_L => [0x8D]
  | .adc_A_atHL => [0x8E]
  | .adc_A_A => [0x8F]
  | .sub_A_B => [0x90]
  | .sub_A_C => [0x91]
  | .sub_A_D => [0x92]
  | .sub_A_E => [0x93]
  | .sub_A_H => [0x94]
  | .sub_A_L => [0x95]
  | .sub_A_atHL => [0x96]
  | .sub_A_A => [0x97]
  | .sbc_A_B => [0x98]
  | .sbc_A_C => [0x99]
  | .sbc_A_D => [0x9A]
  | .sbc_A_E => [0x9B]
  | .sbc_A_H => [0x9C]
  | .sbc_A_L => [0x9D]
  | .sbc_A_atHL => [0x9E]
  | .sbc_A_A => [0x9F]
  | .and_A_B => [0xA0]
  | .and_A_C => [0xA1]
  | .and_A_D => [0xA2]
  | .and_A_E => [0xA3]
  | .and_A_H => [0xA4]
  | .and_A_L => [0xA5]
  | .and_A_atHL => [0xA6]
  | .and_A_A => [0xA7]
  | .xor_A_B => [0xA8]
  | .xor_A_C => [0xA9]
  | .xor_A_D => [0xAA]
  | .xor_A_E => [0xAB]
  | .xor_A_H => [0xAC]
  | .xor_A_L => [0xAD]
  | .xor_A_atHL => [0xAE]
  | .xor_A_A => [0xAF]
  | .or_A_B => [0xB0]
  | .or_A_C => [0xB1]
  | .or_A_D => [0xB2]
  | .or_A_E => [0xB3]
  | .or_A_H => [0xB4]
  | .or_A_L => [0xB5]
  | .or_A_atHL => [0xB6]
  | .or_A_A => [0xB7]
  | .cp_A_B => [0xB8]
  | .cp_A_C => [0xB9]
  | .cp_A_D => [0xBA]
  | .cp_A_E => [0xBB]
  | .cp_A_H => [0xBC]
  | .cp_A_L => [0xBD]
  | .cp_A_atHL => [0xBE]
  | .cp_A_A => [0xBF]
  | .ret_NZ => [0xC0]
  | .pop_BC => [0xC1]
  | .jp_NZ nn => [0xC2, loByte nn, hiByte nn]
  | .jp nn => [0xC3, loByte nn, hiByte nn]
  | .call_NZ nn => [0xC4, loByte nn, hiByte nn]
  | .push_BC => [0xC5]
  | .add_A_n n => [0xC6, n]
  | .rst_00 => [0xC7]
  | .ret_Z => [0xC8]
  | .ret => [0xC9]
  | .jp_Z nn => [0xCA, loByte nn, hiByte nn]
  | .prefixCB op2 => [0xCB, op2]
  | .call_Z nn => [0xCC, loByte nn, hiByte nn]
  | .call nn => [0xCD, loByte nn, hiByte nn]
  | .adc_A_n n => [0xCE, n]
  | .rst_08 => [0xCF]
  | .ret_NC => [0xD0]
  | .pop_DE => [0xD1]
  | .jp_NC nn => [0xD2, loByte nn, hiByte nn]
  | .illegal_D3 => [0xD3]
  | .call_NC nn => [0xD4, loByte nn, hiByte nn]
  | .push_DE => [0xD5]
  | .sub_A_n n => [0xD6, n]
  | .rst_10 => [0xD7]
  | .ret_C => [0xD8]
  | .reti => [0xD9]
  | .jp_C nn => [0xDA, loByte nn, hiByte nn]
  | .illegal_DB => [0xDB]
  | .call_C nn => [0xDC, loByte nn, hiByte nn]
  | .illegal_DD => [0xDD]
  | .sbc_A_n n => [0xDE, n]
  | .rst_18 => [0xDF]
  | .ldh_atN_A n => [0xE0, n]
  | .pop_HL => [0xE1]
  | .ldh_atC_A => [0xE2]
  | .illegal_E3 => [0xE3]
  | .illegal_E4 => [0xE4]
  | .push_HL => [0xE5]
  | .and_A_n n => [0xE6, n]
  | .rst_20 => [0xE7]
  | .add_SP_e e => [0xE8, e]
  | .jp_HL => [0xE9]
  | .ld_atNN_A nn => [0xEA, loByte nn, hiByte nn]
  | .illegal_EB => [0xEB]
  | .illegal_EC => [0xEC]
  | .illegal_ED => [0xED]
  | .xor_A_n n => [0xEE, n]
  | .rst_28 => [0xEF]
  | .ldh_A_atN n => [0xF0, n]
  | .pop_AF => [0xF1]
  | .ldh_A_atC => [0xF2]
  | .di => [0xF3]
  | .illegal_F4 => [0xF4]
  | .push_AF => [0xF5]
  | .or_A_n n => [0xF6, n]
  | .rst_30 => [0xF7]
  | .ld_HL_SPe e => [0xF8, e]
  | .ld_SP_HL => [0xF9]
  | .ld_A_atNN nn => [0xFA, loByte nn, hiByte nn]
  | .ei => [0xFB]
  | .illegal_FC => [0xFC]
  | .illegal_FD => [0xFD]
  | .cp_A_n n => [0xFE, n]
  | .rst_38 => [0xFF]
  | .rlc_B => [0xCB, 0x00]
  | .rlc_C => [0xCB, 0x01]
  | .rlc_D => [0xCB, 0x02]
  | .rlc_E => [0xCB, 0x03]
  | .rlc_H => [0xCB, 0x04]
  | .rlc_L => [0xCB, 0x05]
  | .rlc_atHL => [0xCB, 0x06]
  | .rlc_A => [0xCB, 0x07]
  | .rrc_B => [0xCB, 0x08]
  | .rrc_C => [0xCB, 0x09]
  | .rrc_D => [0xCB, 0x0A]
  | .rrc_E => [0xCB, 0x0B]
  | .rrc_H => [0xCB, 0x0C]
  | .rrc_L => [0xCB, 0x0D]
  | .rrc_atHL => [0xCB, 0x0E]
  | .rrc_A => [0xCB, 0x0F]
  | .rl_B => [0xCB, 0x10]
  | .rl_C => [0xCB, 0x11]
  | .rl_D => [0xCB, 0x12]
  | .rl_E => [0xCB, 0x13]
  | .rl_H => [0xCB, 0x14]
  | .rl_L => [0xCB, 0x15]
  | .rl_atHL => [0xCB, 0x16]
  | .rl_A => [0xCB, 0x17]
  | .rr_B => [0xCB, 0x18]
  | .rr_C => [0xCB, 0x19]
  | .rr_D => [0xCB, 0x1A]
  | .rr_E => [0xCB, 0x1B]
  | .rr_H => [0xCB, 0x1C]
  | .rr_L => [0xCB, 0x1D]
  | .rr_atHL => [0xCB, 0x1E]
  | .rr_A => [0xCB, 0x1F]
  | .sla_B => [0xCB, 0x20]
  | .sla_C => [0xCB, 0x21]
  | .sla_D => [0xCB, 0x22]
  | .sla_E => [0xCB, 0x23]
  | .sla_H => [0xCB, 0x24]
  | .sla_L => [0xCB, 0x25]
  | .sla_atHL => [0xCB, 0x26]
  | .sla_A => [0xCB, 0x27]
  | .sra_B => [0xCB, 0x28]
  | .sra_C => [0xCB, 0x29]
  | .sra_D => [0xCB, 0x2A]
  | .sra_E => [0xCB, 0x2B]
  | .sra_H => [0xCB, 0x2C]
  | .sra_L => [0xCB, 0x2D]
  | .sra_atHL => [0xCB, 0x2E]
  | .sra_A => [0xCB, 0x2F]
  | .swap_B => [0xCB, 0x30]
  | .swap_C => [0xCB, 0x31]
  | .swap_D => [0xCB, 0x32]
  | .swap_E => [0xCB, 0x33]
  | .swap_H => [0xCB, 0x34]
  | .swap_L => [0xCB, 0x35]
  | .swap_atHL => [0xCB, 0x36]
  | .swap_A => [0xCB, 0x37]
  | .srl_B => [0xCB, 0x38]
  | .srl_C => [0xCB, 0x39]
  | .srl_D => [0xCB, 0x3A]
  | .srl_E => [0xCB, 0x3B]
  | .srl_H => [0xCB, 0x3C]
  | .srl_L => [0xCB, 0x3D]
  | .srl_atHL => [0xCB, 0x3E]
  | .srl_A => [0xCB, 0x3F]
  | .bit0_B => [0xCB, 0x40]
  | .bit0_C => [0xCB, 0x41]
  | .bit0_D => [0xCB, 0x42]
  | .bit0_E => [0xCB, 0x43]
  | .bit0_H => [0xCB, 0x44]
  | .bit0_L => [0xCB, 0x45]
  | .bit0_atHL => [0xCB, 0x46]
  | .bit0_A => [0xCB, 0x47]
  | .bit1_B => [0xCB, 0x48]
  | .bit1_C => [0xCB, 0x49]
  | .bit1_D => [0xCB, 0x4A]
  | .bit1_E => [0xCB, 0x4B]
  | .bit1_H => [0xCB, 0x4C]
  | .bit1_L => [0xCB, 0x4D]
  | .bit1_atHL => [0xCB, 0x4E]
  | .bit1_A => [0xCB, 0x4F]
  | .bit2_B => [0xCB, 0x50]
  | .bit2_C => [0xCB, 0x51]
  | .bit2_D => [0xCB, 0x52]
  | .bit2_E => [0xCB, 0x53]
  | .bit2_H => [0xCB, 0x54]
  | .bit2_L => [0xCB, 0x55]
  | .bit2_atHL => [0xCB, 0x56]
  | .bit2_A => [0xCB, 0x57]
  | .bit3_B => [0xCB, 0x58]
  | .bit3_C => [0xCB, 0x59]
  | .bit3_D => [0xCB, 0x5A]
  | .bit3_E => [0xCB, 0x5B]
  | .bit3_H => [0xCB, 0x5C]
  | .bit3_L => [0xCB, 0x5D]
  | .bit3_atHL => [0xCB, 0x5E]
  | .bit3_A => [0xCB, 0x5F]
  | .bit4_B => [0xCB, 0x60]
  | .bit4_C => [0xCB, 0x61]
  | .bit4_D => [0xCB, 0x62]
  | .bit4_E => [0xCB, 0x63]
  | .bit4_H => [0xCB, 0x64]
  | .bit4_L => [0xCB, 0x65]
  | .bit4_atHL => [0xCB, 0x66]
  | .bit4_A => [0xCB, 0x67]
  | .bit5_B => [0xCB, 0x68]
  | .bit5_C => [0xCB, 0x69]
  | .bit5_D => [0xCB, 0x6A]
  | .bit5_E => [0xCB, 0x6B]
  | .bit5_H => [0xCB, 0x6C]
  | .bit5_L => [0xCB, 0x6D]
  | .bit5_atHL => [0xCB, 0x6E]
  | .bit5_A => [0xCB, 0x6F]
  | .bit6_B => [0xCB, 0x70]
  | .bit6_C => [0xCB, 0x71]
  | .bit6_D => [0xCB, 0x72]
  | .bit6_E => [0xCB, 0x73]
  | .bit6_H => [0xCB, 0x74]
  | .bit6_L => [0xCB, 0x75]
  | .bit6_atHL => [0xCB, 0x76]
  | .bit6_A => [0xCB, 0x77]
  | .bit7_B => [0xCB, 0x78]
  | .bit7_C => [0xCB, 0x79]
  | .bit7_D => [0xCB, 0x7A]
  | .bit7_E => [0xCB, 0x7B]
  | .bit7_H => [0xCB, 0x7C]
  | .bit7_L => [0xCB, 0x7D]
  | .bit7_atHL => [0xCB, 0x7E]
  | .bit7_A => [0xCB, 0x7F]
  | .res0_B => [0xCB, 0x80]
  | .res0_C => [0xCB, 0x81]
  | .res0_D => [0xCB, 0x82]
  | .res0_E => [0xCB, 0x83]
  | .res0_H => [0xCB, 0x84]
  | .res0_L => [0xCB, 0x85]
  | .res0_atHL => [0xCB, 0x86]
  | .res0_A => [0xCB, 0x87]
  | .res1_B => [0xCB, 0x88]
  | .res1_C => [0xCB, 0x89]
  | .res1_D => [0xCB, 0x8A]
  | .res1_E => [0xCB, 0x8B]
  | .res1_H => [0xCB, 0x8C]
  | .res1_L => [0xCB, 0x8D]
  | .res1_atHL => [0xCB, 0x8E]
  | .res1_A => [0xCB, 0x8F]
  | .res2_B => [0xCB, 0x90]
  | .res2_C => [0xCB, 0x91]
  | .res2_D => [0xCB, 0x92]
  | .res2_E => [0xCB, 0x93]
  | .res2_H => [0xCB, 0x94]
  | .res2_L => [0xCB, 0x95]
  | .res2_atHL => [0xCB, 0x96]
  | .res2_A => [0xCB, 0x97]
  | .res3_B => [0xCB, 0x98]
  | .res3_C => [0xCB, 0x99]
  | .res3_D => [0xCB, 0x9A]
  | .res3_E => [0xCB, 0x9B]
  | .res3_H => [0xCB, 0x9C]
  | .res3_L => [0xCB, 0x9D]
  | .res3_atHL => [0xCB, 0x9E]
  | .res3_A => [0xCB, 0x9F]
  | .res4_B => [0xCB, 0xA0]
  | .res4_C => [0xCB, 0xA1]
  | .res4_D => [0xCB, 0xA2]
  | .res4_E => [0xCB, 0xA3]
  | .res4_H => [0xCB, 0xA4]
  | .res4_L => [0xCB, 0xA5]
  | .res4_atHL => [0xCB, 0xA6]
  | .res4_A => [0xCB, 0xA7]
  | .res5_B => [0xCB, 0xA8]
  | .res5_C => [0xCB, 0xA9]
  | .res5_D => [0xCB, 0xAA]
  | .res5_E => [0xCB, 0xAB]
  | .res5_H => [0xCB, 0xAC]
  | .res5_L => [0xCB, 0xAD]
  | .res5_atHL => [0xCB, 0xAE]
  | .res5_A => [0xCB, 0xAF]
  | .res6_B => [0xCB, 0xB0]
  | .res6_C => [0xCB, 0xB1]
  | .res6_D => [0xCB, 0xB2]
  | .res6_E => [0xCB, 0xB3]
  | .res6_H => [0xCB, 0xB4]
  | .res6_L => [0xCB, 0xB5]
  | .res6_atHL => [0xCB, 0xB6]
  | .res6_A => [0xCB, 0xB7]
  | .res7_B => [0xCB, 0xB8]
  | .res7_C => [0xCB, 0xB9]
  | .res7_D => [0xCB, 0xBA]
  | .res7_E => [0xCB, 0xBB]
  | .res7_H => [0xCB, 0xBC]
  | .res7_L => [0xCB, 0xBD]
  | .res7_atHL => [0xCB, 0xBE]
  | .res7_A => [0xCB, 0xBF]
  | .set0_B => [0xCB, 0xC0]
  | .set0_C => [0xCB, 0xC1]
  | .set0_D => [0xCB, 0xC2]
  | .set0_E => [0xCB, 0xC3]
  | .set0_H => [0xCB, 0xC4]
  | .set0_L => [0xCB, 0xC5]
  | .set0_atHL => [0xCB, 0xC6]
  | .set0_A => [0xCB, 0xC7]
  | .set1_B => [0xCB, 0xC8]
  | .set1_C => [0xCB, 0xC9]
  | .set1_D => [0xCB, 0xCA]
  | .set1_E => [0xCB, 0xCB]
  | .set1_H => [0xCB, 0xCC]
  | .set1_L => [0xCB, 0xCD]
  | .set1_atHL => [0xCB, 0xCE]
  | .set1_A => [0xCB, 0xCF]
  | .set2_B => [0xCB, 0xD0]
  | .set2_C => [0xCB, 0xD1]
  | .set2_D => [0xCB, 0xD2]
  | .set2_E => [0xCB, 0xD3]
  | .set2_H => [0xCB, 0xD4]
  | .set2_L => [0xCB, 0xD5]
  | .set2_atHL => [0xCB, 0xD6]
  | .set2_A => [0xCB, 0xD7]
  | .set3_B => [0xCB, 0xD8]
  | .set3_C => [0xCB, 0xD9]
  | .set3_D => [0xCB, 0xDA]
  | .set3_E => [0xCB, 0xDB]
  | .set3_H => [0xCB, 0xDC]
  | .set3_L => [0xCB, 0xDD]
  | .set3_atHL => [0xCB, 0xDE]
  | .set3_A => [0xCB, 0xDF]
  | .set4_B => [0xCB, 0xE0]
  | .set4_C => [0xCB, 0xE1]
  | .set4_D => [0xCB, 0xE2]
  | .set4_E => [0xCB, 0xE3]
  | .set4_H => [0xCB, 0xE4]
  | .set4_L => [0xCB, 0xE5]
  | .set4_atHL => [0xCB, 0xE6]
  | .set4_A => [0xCB, 0xE7]
  | .set5_B => [0xCB, 0xE8]
  | .set5_C => [0xCB, 0xE9]
  | .set5_D => [0xCB, 0xEA]
  | .set5_E => [0xCB, 0xEB]
  | .set5_H => [0xCB, 0xEC]
  | .set5_L => [0xCB, 0xED]
  | .set5_atHL => [0xCB, 0xEE]
  | .set5_A => [0xCB, 0xEF]
  | .set6_B => [0xCB, 0xF0]
  | .set6_C => [0xCB, 0xF1]
  | .set6_D => [0xCB, 0xF2]
  | .set6_E => [0xCB, 0xF3]
  | .set6_H => [0xCB, 0xF4]
  | .set6_L => [0xCB, 0xF5]
  | .set6_atHL => [0xCB, 0xF6]
  | .set6_A => [0xCB, 0xF7]
  | .set7_B => [0xCB, 0xF8]
  | .set7_C => [0xCB, 0xF9]
  | .set7_D => [0xCB, 0xFA]
  | .set7_E => [0xCB, 0xFB]
  | .set7_H => [0xCB, 0xFC]
  | .set7_L => [0xCB, 0xFD]
  | .set7_atHL => [0xCB, 0xFE]
  | .set7_A => [0xCB, 0xFF]

/-- The first byte of an instruction. -/
def Instr.opcode (i : Instr) : Byte := (encode i).headD 0

/-- The byte after the first, of an instruction that has one. -/
def Instr.secondByte (i : Instr) : Byte := (encode i).getD 1 0

/-- The length by which `PC` advances (R300 step 4): the table's `length`; 0 for an illegal opcode, which has none and
whose fault leaves `PC` (R307). -/
def Instr.length (i : Instr) : Nat := lengthOf i.opcode

/-- The base cost (R308): the `cycles` column; for an extended instruction that of its second byte (R306). -/
def Instr.baseCycles (i : Instr) : Nat :=
  if i.opcode = 0xCB then extendedCycles.getD i.secondByte.toNat 0 else primaryCycles.getD i.opcode.toNat 0

/-- The condition of the sixteen conditional transfers (R280, R308), by the pattern of the opcode (R130). -/
def conditionOf (op : Byte) : Option Cond :=
  match fieldX op, fieldZ op, fieldY op with
  | .j0, .i0, .i4 | .j0, .i0, .i5 | .j0, .i0, .i6 | .j0, .i0, .i7 => some (condOf (fieldC op))
  | .j3, .i0, .i0 | .j3, .i0, .i1 | .j3, .i0, .i2 | .j3, .i0, .i3 => some (condOf (fieldC op))
  | .j3, .i2, .i0 | .j3, .i2, .i1 | .j3, .i2, .i2 | .j3, .i2, .i3 => some (condOf (fieldC op))
  | .j3, .i4, .i0 | .j3, .i4, .i1 | .j3, .i4, .i2 | .j3, .i4, .i3 => some (condOf (fieldC op))
  | _, _, _ => none

def Instr.condition (i : Instr) : Option Cond := conditionOf i.opcode

/-! ### The table's numbering of words (log 9) -/

/-- The bytes of a table word. A row of 8 bits is its byte, the bytes after it 0. A row of 16 bits is an extended row:
the table writes its two bytes as one number with byte 0, which is 0xCB, in the HIGH half (the head of 30_encoding);
otherwise the byte with the low bits comes first. -/
def tableBytes (nbits w : Nat) : List Byte :=
  if nbits = 16 ∧ w / 256 % 256 = 0xCB then [BitVec.ofNat 8 (w / 256), BitVec.ofNat 8 w, 0]
  else [BitVec.ofNat 8 w, BitVec.ofNat 8 (w / 256), BitVec.ofNat 8 (w / 65536)]

/-- The instruction the decoder reads from a table word. -/
def decodeTableWord (nbits w : Nat) : Option Instr :=
  match decode (tableBytes nbits w) with
  | .ok (i, _) => some i
  | .error _ => none

end Sys2Proof
end

