-- ==== Sys2Proof/Config.lean ====
section
/-! DEFINITION. What is fixed for a run: the constants of 00_scope R7, the parameters a launch supplies (as plain
data), and the values and functions the spec leaves to the outside, as uninterpreted constants. -/

namespace Sys2Proof

namespace Config

/-! ### Register addresses (R7, R37 to R44) -/

abbrev JOYP : Word := 0xFF00
abbrev DIV  : Word := 0xFF04
abbrev TIMA : Word := 0xFF05
abbrev TMA  : Word := 0xFF06
abbrev TAC  : Word := 0xFF07
abbrev IF   : Word := 0xFF0F
abbrev LY   : Word := 0xFF44
abbrev DMA  : Word := 0xFF46
abbrev BOOT : Word := 0xFF50
abbrev IE   : Word := 0xFFFF

/-! ### Counts and thresholds (R7) -/

/-- `HALT_COST`: cycles reported by `execute_one` when halted. -/
abbrev haltCost : Nat := 4
/-- `DMA_LEN`: bytes copied by one DMA trigger. -/
abbrev dmaLen : Nat := 160
/-- `DIV_T`: divider sub-cycle threshold. -/
abbrev divT : Nat := 256
/-- `SENTINEL`: the byte a read of a rejected address returns. -/
abbrev sentinel : Byte := 0x00
/-- `TAC_EN`: the bit of `TAC` that enables the counter. -/
abbrev tacEn : Nat := 2
/-- `TIMER_SRC`: the index of the timer interrupt source. -/
abbrev timerSrc : Nat := 2

/-! ### The bank controller's scalars (10_state R35) -/

/-- Bank-selection state, owned by the bank controller and read by the bus at each access. -/
structure BankState where
  romBank   : Nat
  ramBank   : Nat
  ramEnable : Bool
  mode      : Bool
  deriving DecidableEq, Repr, Inhabited

/-- The bank controller fitted (R92): the "no controller" default of R93, or another one, of which the spec gives only
the interface; `external id` names it. -/
inductive Controller where
  | noController
  | external (id : Nat)
  deriving DecidableEq, Repr

/-- `wram_select` (R36): a constant bank 1..7 (`fixed b` shows `WRAM[b + 1]`), or a function of the current state that
the spec does not give; `external id` names it. -/
inductive WramSelect where
  | fixed (b : Fin 7)
  | external (id : Nat)
  deriving DecidableEq, Repr

/-- `poll` (R67, R349), a function of the step index: `listed bytes after` is the one that gives `bytes` at the first steps
and `after` from then on (a constant is `listed [] b`), and `external id` names one that the spec does not give. -/
inductive InputSource where
  | listed (bytes : List Byte) (after : Byte)
  | external (id : Nat)
  deriving DecidableEq, Repr

/-- `env_step` (R349): the identity, the changes listed for each coming step in the state's `envQueue`, or a function of
the state and the reported cycles that the spec does not give; `external id` names it. -/
inductive EnvStep where
  | identity
  | queued
  | external (id : Nat)
  deriving DecidableEq, Repr

/-- The parameters of R7 that a launch supplies: fixed for a run, changed by no step. -/
structure Params where
  romBanks   : Nat
  eramBanks  : Nat
  bootSize   : Nat
  controller : Controller
  wramSelect : WramSelect
  /-- `TAKEN_EXTRA` as a table from opcode to extra cycles; an opcode not listed has 0 (R308). -/
  takenExtra : List (Byte × Nat)
  poll       : InputSource
  envStep    : EnvStep
  deriving DecidableEq, Repr

/-- The defaults of R7 (log 2). DESIGN CHOICE: the two bank counts, which R7 leaves to the loader. -/
def Params.default : Params :=
  { romBanks := 2, eramBanks := 0, bootSize := 0x100, controller := .noController, wramSelect := .fixed 0,
    takenExtra := [], poll := .listed [] 0xFF, envStep := .identity }

/-! ### Uninterpreted: what the spec leaves to an external collaborator -/

/-- `in_window(a)` of the external controller `id` (R92 (b)). -/
opaque inWindow : Nat → Word → Bool

/-- `on_write(a, v)` of the external controller `id` (R92 (c)): from its state, the address and the value to its new
state, and nothing else. -/
opaque onWrite : Nat → BankState → Word → Byte → BankState

/-- The reset defaults of the external controller `id` (R92 (d)). -/
opaque resetBanks : Nat → BankState

/-- `poll()` of the external input source `id` at a step (R67, R349): an oracle, one byte for each step index. -/
opaque poll : Nat → Nat → Byte

end Config

end Sys2Proof
end

