-- ==== Sys2Proof/Machine/State.lean ====
section
/-! DEFINITION. The whole state of the three blocks (10_state) as plain data, the reasons a step stops, and the state
after reset. -/

namespace Sys2Proof.Machine

/-- The bus-owned backing buffers (10_state R32). -/
inductive Buffer where
  | rom0 | romx | bootrom | vram | eram | wram | oam | io | hram | iereg
  deriving DecidableEq, Repr

/-- One storage cell: a buffer, the bank of a banked buffer (0 otherwise), and the offset in it (R68). -/
structure Loc where
  buf  : Buffer
  bank : Nat
  off  : Nat
  deriving DecidableEq, Repr

/-- All storage cells: (key of a cell, byte) pairs in one canonical form (Machine/Ops.lean). -/
abbrev Memory := List Host.Cell

/-- The buffers whose bytes the peripherals may change (60_exceptions R349). -/
inductive EnvArea where
  | io | vram | oam
  deriving DecidableEq, Repr

/-- One byte a peripheral leaves in one of those buffers at the end of a step. -/
structure EnvWrite where
  area  : EnvArea
  off   : Nat
  value : Byte
  deriving DecidableEq, Repr

/-- Why a step stops with a fault. -/
inductive Fault where
  /-- `IllegalOpcode(op, at)` (R307, R346). Raised by the meanings of the eleven `illegal_` rows, that is when one of
  those opcodes is fetched in the running state. Safe: the spec's own choice is that the run ends there with no state
  change (R132, D4). -/
  | illegalOpcode (op : Byte) (at_ : Word)
  deriving DecidableEq, Repr

/-- Why an instruction is refused. -/
inductive Refusal where
  /-- An instruction without a meaning in this model. Raised by the refused arms of `exec`, of which there is none.
  Safe: nothing is claimed of such an instruction. -/
  | notModelled (mnemonic : String)
  deriving DecidableEq, Repr

/-- The state of the machine. -/
structure State where
  /-- The accumulator and the flag register (R20, R21, R24), and the six general registers (R20). -/
  a : Byte
  f : Byte
  b : Byte
  c : Byte
  d : Byte
  e : Byte
  h : Byte
  l : Byte
  /-- The program counter (R23) and the stack pointer (R25). -/
  pc : Word
  sp : Word
  /-- `IME` (R27). -/
  ime : Bool
  /-- `halted` (R28). -/
  halted : Bool
  /-- `in_service`, the mid-service latch (R29). -/
  inService : Bool
  /-- `div_acc` (R30) and `tima_acc` (R31). -/
  divAcc  : Nat
  timaAcc : Nat
  /-- `boot_done`, the boot-complete latch (R34). -/
  bootDone : Bool
  /-- The bank-selection scalars (R35). -/
  banks : Config.BankState
  /-- The bytes of every buffer of R32, the bus-visible registers of R37 to R45 among them. -/
  mem : Memory
  /-- The parameters of 00_scope R7, fixed for a run. -/
  params : Config.Params
  /-- The model's own: what a queued `env_step` does at the end of each coming step (R349, log 5). -/
  envQueue : List (List EnvWrite)
  /-- The model's own: the index of the step, the argument of the oracle `poll` (R349, log 4). -/
  stepIndex : Nat
  /-- The model's own: the cycles the last `execute_one` reported, what `advance(n)` receives (R349, log 14). -/
  lastCycles : Nat
  deriving DecidableEq, Repr

end Sys2Proof.Machine

namespace Sys2Proof.Config

/-- `wram_select` of the external selector `id` (10_state R36), applied to the current state: one of the seven banks
1..7, as its index 0..6. -/
opaque wramSelect : Nat → Machine.State → Fin 7

/-- `env_step` of the external peripherals `id` (60_exceptions R349), applied to the state after `tick_timer` and the
reported cycles: the bytes of `IO`, `VRAM` and `OAM` it changes, in order. -/
opaque envStep : Nat → Machine.State → Nat → List Machine.EnvWrite

end Sys2Proof.Config

namespace Sys2Proof.Machine

/-- The machine right after reset (R370): registers and latches by R58, the bus-visible registers by R57 (0x00, so
nothing is listed), the "no controller" bank scalars of R93, the parameters at their defaults (log 2), and no cartridge
or boot image loaded (log 10; `State.launch` loads one). `boot_done` is 0 because `BOOT_SIZE` is not 0 (R58). -/
def State.reset : State :=
  { a := 0, f := 0, b := 0, c := 0, d := 0, e := 0, h := 0, l := 0, pc := 0, sp := 0
    ime := false, halted := false, inService := false, divAcc := 0, timaAcc := 0, bootDone := false
    banks := { romBank := 1, ramBank := 0, ramEnable := true, mode := false }
    mem := [], params := Config.Params.default, envQueue := [], stepIndex := 0, lastCycles := 0 }

end Sys2Proof.Machine
end

