-- ==== Sys2Proof/Machine/Ops.lean ====
section
/-! DEFINITION. The named operations over storage, the bus, the stack and the interrupt unit (20_memory,
60_exceptions section 2): the only way the meanings reach memory. -/

namespace Sys2Proof.Machine

/-! ### Storage cells (R32) -/

def Buffer.index : Buffer → Nat
  | .rom0 => 0 | .romx => 1 | .bootrom => 2 | .vram => 3 | .eram => 4
  | .wram => 5 | .oam => 6 | .io => 7 | .hram => 8 | .iereg => 9

/-- The size of a buffer, of one bank of a banked one (R32), in a machine with these parameters. -/
def Buffer.size (p : Config.Params) : Buffer → Nat
  | .rom0 => 0x4000 | .romx => 0x4000 | .bootrom => p.bootSize | .vram => 0x2000 | .eram => 0x2000
  | .wram => 0x1000 | .oam => 0xA0 | .io => 0x80 | .hram => 0x7F | .iereg => 1

/-- The number of banks of a buffer (R32). -/
def Buffer.banks (p : Config.Params) : Buffer → Nat
  | .romx => p.romBanks | .eram => p.eramBanks | .wram => 8
  | .rom0 | .bootrom | .vram | .oam | .io | .hram | .iereg => 1

/-- A cell that exists (R32). -/
def Loc.exists_ (p : Config.Params) (x : Loc) : Bool :=
  decide (x.bank < x.buf.banks p) && decide (x.off < x.buf.size p)

/-- The number a cell has in the storage list; offsets are below 0x4000, so cells have keys of their own. -/
def Loc.key (x : Loc) : Nat := (x.bank * 16 + x.buf.index) * 0x4000 + x.off

/-- What a cell that is not listed reads as. DESIGN CHOICE (log 1), and not safe: R59 leaves it unspecified. -/
def Memory.unlisted : Byte := 0x00

def Memory.read : Memory → Nat → Byte
  | [], _ => Memory.unlisted
  | (k, v) :: rest, key => if k = key then v else Memory.read rest key

/-- Without the entries of a key. -/
def Memory.erase (m : Memory) (key : Nat) : Memory := m.filter fun cell => cell.1 != key

/-- An entry put in before the first larger key. -/
def Memory.insert : Memory → Nat → Byte → Memory
  | [], key, v => [(key, v)]
  | (k, w) :: rest, key, v => if key < k then (key, v) :: (k, w) :: rest else (k, w) :: Memory.insert rest key v

/-- A write keeps the canonical form: writing what an unlisted cell reads as removes the entry. -/
def Memory.write (m : Memory) (key : Nat) (v : Byte) : Memory :=
  if v = Memory.unlisted then Memory.erase m key else Memory.insert (Memory.erase m key) key v

/-- The canonical form: keys strictly rising, no entry equal to what an unlisted cell reads as. -/
def Memory.wf : Memory → Bool
  | [] => true
  | (k, v) :: rest => decide (v ≠ Memory.unlisted) && rest.all (fun cell => decide (k < cell.1)) && Memory.wf rest

/-- The byte of a storage cell. -/
def State.cell (s : State) (x : Loc) : Byte := s.mem.read x.key

/-- The state with a byte put in a storage cell, and nothing else. -/
def State.setCell (s : State) (x : Loc) (v : Byte) : State := { s with mem := s.mem.write x.key v }

/-! ### Regions, validity, resolution (R61 to R73) -/

/-- The region tags of R61. -/
inductive Region where
  | ROM0 | ROMX | VRAM | ERAM | WRAM0 | WRAMX | ECHO0 | ECHOX | OAM | UNUSABLE | IO | HRAM | IE
  deriving DecidableEq, Repr

/-- The region of an address: the table of R61 from its lowest row up. -/
def region (a : Word) : Region :=
  let n := a.toNat
  if n < 0x4000 then .ROM0
  else if n < 0x8000 then .ROMX
  else if n < 0xA000 then .VRAM
  else if n < 0xC000 then .ERAM
  else if n < 0xD000 then .WRAM0
  else if n < 0xE000 then .WRAMX
  else if n < 0xF000 then .ECHO0
  else if n < 0xFE00 then .ECHOX
  else if n < 0xFEA0 then .OAM
  else if n < 0xFF00 then .UNUSABLE
  else if n < 0xFF80 then .IO
  else if n < 0xFFFF then .HRAM
  else .IE

/-- `valid(a)` (R65), its two clauses apart (90_conflicts C7). -/
def State.valid (s : State) (a : Word) : Bool :=
  !(decide (region a = .UNUSABLE))
    && !(decide (region a = .ERAM) && (decide (s.params.eramBanks = 0) || !s.banks.ramEnable))

/-- `wram_sel` (R36, R71), one of 1..7, evaluated at this access. -/
def State.wramSel (s : State) : Nat :=
  match s.params.wramSelect with
  | .fixed b => b.val + 1
  | .external id => (Config.wramSelect id s).val + 1

/-- `resolve(a)` (R68 to R73), the same for reads and writes of either flavour. An address of the unusable range has no
cell; resolution is never asked for one, since R65 rejects it first. -/
def State.resolve (s : State) (a : Word) : Option Loc :=
  let n := a.toNat
  match region a with
  | .ROM0 => if n < s.params.bootSize ∧ s.bootDone = false then some ⟨.bootrom, 0, n⟩ else some ⟨.rom0, 0, n⟩
  | .ROMX => some ⟨.romx, s.banks.romBank % s.params.romBanks, n - 0x4000⟩
  | .VRAM => some ⟨.vram, 0, n - 0x8000⟩
  | .ERAM => some ⟨.eram, s.banks.ramBank % s.params.eramBanks, n - 0xA000⟩
  | .WRAM0 => some ⟨.wram, 0, n - 0xC000⟩
  | .WRAMX => some ⟨.wram, s.wramSel, n - 0xD000⟩
  | .ECHO0 => some ⟨.wram, 0, n - 0xE000⟩
  | .ECHOX => some ⟨.wram, s.wramSel, n - 0xF000⟩
  | .OAM => some ⟨.oam, 0, n - 0xFE00⟩
  | .UNUSABLE => none
  | .IO => some ⟨.io, 0, n - 0xFF00⟩
  | .HRAM => some ⟨.hram, 0, n - 0xFF80⟩
  | .IE => some ⟨.iereg, 0, 0⟩

/-! ### The bus transactions (R64, R66, R74, R81 to R83) -/

/-- `poll()` in this step (R67). -/
def State.poll (s : State) : Byte :=
  match s.params.poll with
  | .listed bytes after => bytes.getD s.stepIndex after
  | .external id => Config.poll id s.stepIndex

/-- `read8(a, prog)` (R66). A read changes no state. -/
def State.read8 (s : State) (a : Word) (prog : Bool) : Byte :=
  if s.valid a = false then Config.sentinel
  else if prog = true ∧ a = Config.JOYP then s.poll
  else
    match s.resolve a with
    | some x => s.cell x
    | none => Config.sentinel

/-- `read16(a, prog)` (R81). -/
def State.read16 (s : State) (a : Word) (prog : Bool) : Word := wordOf (s.read8 a prog) (s.read8 (a + 1) prog)

/-- Step 2 of R74: the bank intercept (R75, R92, R93). -/
def State.bankIntercept (s : State) (a : Word) (v : Byte) : State :=
  match s.params.controller with
  | .noController => s
  | .external id => if Config.inWindow id a then { s with banks := Config.onWrite id s.banks a v } else s

/-- `n` bytes of the DMA copy, from byte `i` on, in ascending order (R76): read through the bus as an internal access,
written straight into `OAM`. -/
def State.dmaFrom (s : State) (v : Byte) (i : Nat) : Nat → State
  | 0 => s
  | n + 1 =>
    State.dmaFrom (s.setCell ⟨.oam, 0, i⟩ (s.read8 (BitVec.ofNat 16 (v.toNat * 0x100 + i)) false)) v (i + 1) n

/-- `dma_copy(v)` (R76). -/
def State.dmaCopy (s : State) (v : Byte) : State := s.dmaFrom v 0 Config.dmaLen

/-- Step 3 of R74: the DMA trigger. -/
def State.dmaTrigger (s : State) (a : Word) (v : Byte) : State := if a = Config.DMA then s.dmaCopy v else s

/-- Steps 4 and 5 of R74: the value a program write to `DIV` or `LY` stores (R77, R78). -/
def storedValue (a : Word) (v : Byte) (prog : Bool) : Byte :=
  if prog = true ∧ (a = Config.DIV ∨ a = Config.LY) then 0 else v

/-- Step 6 of R74: the boot-complete latch (R79). -/
def State.bootLatch (s : State) (a : Word) (v : Byte) : State :=
  if a = Config.BOOT ∧ v ≠ 0 then { s with bootDone := true } else s

/-- Step 7 of R74: the store (R80), in the cell the address resolves to now. -/
def State.store (s : State) (a : Word) (v : Byte) : State :=
  match s.resolve a with
  | some x => s.setCell x v
  | none => s

/-- What steps 2 to 6 of R74 leave before the store, for an address that is valid. -/
def State.beforeStore (s : State) (a : Word) (v : Byte) : State :=
  ((s.bankIntercept a v).dmaTrigger a v).bootLatch a v

/-- `write8(a, v, prog)` (R74). -/
def State.write8 (s : State) (a : Word) (v : Byte) (prog : Bool) : State :=
  if s.valid a = false then s
  else (s.beforeStore a v).store a (storedValue a v prog)

/-- `write16(a, v, prog)` (R82): low byte first. -/
def State.write16 (s : State) (a : Word) (v : Word) (prog : Bool) : State :=
  (s.write8 a (loByte v) prog).write8 (a + 1) (hiByte v) prog

/-- A byte with bit `b` made `x`. -/
def setBit (v : Byte) (b : Nat) (x : Bool) : Byte :=
  (v &&& ~~~((1 : Byte) <<< b)) ||| ((if x then (1 : Byte) else 0) <<< b)

/-- `read_bit(a, b)` (R83). -/
def State.readBit (s : State) (a : Word) (b : Nat) : Bool := (s.read8 a false).getLsbD b

/-- `write_bit(a, b, x)` (R83): read-modify-write, internal. -/
def State.writeBit (s : State) (a : Word) (b : Nat) (x : Bool) : State :=
  s.write8 a (setBit (s.read8 a false) b x) false

/-- `MemRead(a, 1)` and `MemWrite(a, 1, v)` (R14): what an instruction does. -/
def State.memRead (s : State) (a : Word) : Byte := s.read8 a true

def State.memWrite (s : State) (a : Word) (v : Byte) : State := s.write8 a v true

/-! ### The stack (R95 to R97) -/

/-- `Push8(v)` (R95). -/
def State.push8 (s : State) (v : Byte) : State := { s with sp := s.sp - 1 }.memWrite (s.sp - 1) v

/-- `Push16(v)` (R96): the high byte first. -/
def State.push16 (s : State) (v : Word) : State := (s.push8 (hiByte v)).push8 (loByte v)

/-- The value `Pop16()` returns (R97): low byte first, then, with `SP` one further, the high byte. -/
def State.popValue (s : State) : Word := wordOf (s.memRead s.sp) ({ s with sp := s.sp + 1 }.memRead (s.sp + 1))

/-- The state `Pop16()` leaves: only `SP` moves, up by two (R95, R97). -/
def State.popped (s : State) : State := { s with sp := s.sp + 2 }

/-! ### Interrupts (R321 to R331) -/

/-- The five interrupt sources (R39, R331). -/
inductive Source where
  | vblank | display | timer | serial | joypad
  deriving DecidableEq, Repr

/-- A source's number, its bit in `IE` and `IF`. -/
def Source.index : Source → Nat
  | .vblank => 0 | .display => 1 | .timer => 2 | .serial => 3 | .joypad => 4

/-- The sources in fixed priority order, the lowest index first (R331). -/
def Source.all : List Source := [.vblank, .display, .timer, .serial, .joypad]

/-- `VEC[i]` (R325). -/
def Source.vector : Source → Word
  | .vblank => 0x0040 | .display => 0x0048 | .timer => 0x0050 | .serial => 0x0058 | .joypad => 0x0060

/-- TAKING AN INTERRUPT: `service(i)` (R324), its six actions in the rule's order. -/
def State.service (s : State) (i : Source) : State :=
  let s := s.push16 s.pc
  let s := s.writeBit Config.IE i.index false
  let s := s.writeBit Config.IF i.index false
  { s with ime := false, pc := i.vector, inService := true }

/-- THE RETURN FROM ONE: `PC <- Pop16(); IME <- 1; in_service <- 0` (R290, R329). -/
def State.returnFromInterrupt (s : State) : State :=
  { s.popped with pc := s.popValue, ime := true, inService := false }

/-- One pass of the loop of R321, for source `i` and the bytes of `IE` and `IF` read before the loop. -/
def State.checkSource (en fl : Byte) (s : State) (i : Source) : State :=
  if en.getLsbD i.index && fl.getLsbD i.index then
    { (if s.ime then s.service i else s) with halted := false }
  else s

/-- `check_interrupt()` (R321). -/
def State.checkInterrupt (s : State) : State :=
  if s.inService then s
  else Source.all.foldl (State.checkSource (s.read8 Config.IE false) (s.read8 Config.IF false)) s

/-! ### The timer (R333 to R337) -/

/-- `TIMA_T[sel]` (R337), by the two-bit speed-select field. -/
def timaT : Idx2 → Nat
  | .j0 => 1024 | .j1 => 16 | .j2 => 64 | .j3 => 256

/-- One cycle of the divider (R334). -/
def State.tickDivider (s : State) : State :=
  if s.divAcc + 1 ≥ Config.divT then
    { s with divAcc := 0 }.write8 Config.DIV (s.read8 Config.DIV false + 1) false
  else { s with divAcc := s.divAcc + 1 }

/-- The counter's increment (R335), or its overflow (R336). -/
def State.tickTima (s : State) : State :=
  if s.read8 Config.TIMA false = 0xFF then
    ((s.write8 Config.TIMA (s.read8 Config.TMA false) false).writeBit Config.IE Config.timerSrc true).writeBit
      Config.IF Config.timerSrc true
  else s.write8 Config.TIMA (s.read8 Config.TIMA false + 1) false

/-- One cycle of the counter (R335). -/
def State.tickCounter (s : State) : State :=
  if (s.read8 Config.TAC false).getLsbD Config.tacEn then
    if s.timaAcc + 1 ≥ timaT (idx2 (s.read8 Config.TAC false).toNat) then { s with timaAcc := 0 }.tickTima
    else { s with timaAcc := s.timaAcc + 1 }
  else s

/-- `tick_timer(n)` (R333): the per-cycle body `n` times. -/
def State.tickTimer (s : State) : Nat → State
  | 0 => s
  | n + 1 => (s.tickDivider.tickCounter).tickTimer n

/-! ### The peripherals (R349) -/

def EnvWrite.loc (w : EnvWrite) : Loc :=
  match w.area with
  | .io => ⟨.io, 0, w.off⟩
  | .vram => ⟨.vram, 0, w.off⟩
  | .oam => ⟨.oam, 0, w.off⟩

/-- One byte changed by a peripheral; an offset outside the buffer changes nothing. -/
def State.envWrite (s : State) (w : EnvWrite) : State :=
  if w.loc.exists_ s.params then s.setCell w.loc w.value else s

/-- The bytes `env_step(s, n)` changes (R349, log 5). -/
def State.envWrites (s : State) (n : Nat) : List EnvWrite :=
  match s.params.envStep with
  | .identity => []
  | .queued => s.envQueue.headD []
  | .external id => Config.envStep id s n

/-- S4: `advance(n)` and `env_step` (R320, R349): the changes of this step; the next step has the next index and the next
entry of the queue. -/
def State.peripherals (s : State) (n : Nat) : State :=
  let s' := (s.envWrites n).foldl State.envWrite s
  { s' with envQueue := s.envQueue.tail, stepIndex := s.stepIndex + 1, lastCycles := n }

end Sys2Proof.Machine
end

