-- ==== Sys2Proof/Machine/Operands.lean ====
section
/-! DEFINITION. The operand forms (30_encoding R123 to R129): registers, pairs, the byte at `HL`, the indirect and
high-page addresses, displacements, conditions. -/

namespace Sys2Proof.Machine

/-! ### 8-bit registers (R123) -/

def State.reg (s : State) : Reg8 → Byte
  | .b => s.b | .c => s.c | .d => s.d | .e => s.e | .h => s.h | .l => s.l | .a => s.a

def State.setReg (s : State) (r : Reg8) (v : Byte) : State :=
  match r with
  | .b => { s with b := v } | .c => { s with c := v } | .d => { s with d := v } | .e => { s with e := v }
  | .h => { s with h := v } | .l => { s with l := v } | .a => { s with a := v }

/-! ### Pairs: views of two registers, the first the high byte (R13, R20, R24) -/

def State.bc (s : State) : Word := wordOf s.c s.b
def State.de (s : State) : Word := wordOf s.e s.d
def State.hl (s : State) : Word := wordOf s.l s.h
def State.af (s : State) : Word := wordOf s.f s.a

def State.setBC (s : State) (v : Word) : State := { s with b := hiByte v, c := loByte v }
def State.setDE (s : State) (v : Word) : State := { s with d := hiByte v, e := loByte v }
def State.setHL (s : State) (v : Word) : State := { s with h := hiByte v, l := loByte v }

/-- An assignment to `AF` stores `value[7:0] & 0xF0` into `F` (R13, R186). -/
def State.setAF (s : State) (v : Word) : State := { s with a := hiByte v, f := loByte v &&& 0xF0 }

/-- `rr[p]` (R124). -/
def State.pair (s : State) : Pair → Word
  | .bc => s.bc | .de => s.de | .hl => s.hl | .sp => s.sp

def State.setPair (s : State) (p : Pair) (v : Word) : State :=
  match p with
  | .bc => s.setBC v | .de => s.setDE v | .hl => s.setHL v | .sp => { s with sp := v }

/-- `rr2[p]` (R125). -/
def State.stackPair (s : State) : StackPair → Word
  | .bc => s.bc | .de => s.de | .hl => s.hl | .af => s.af

def State.setStackPair (s : State) (p : StackPair) (v : Word) : State :=
  match p with
  | .bc => s.setBC v | .de => s.setDE v | .hl => s.setHL v | .af => s.setAF v

/-! ### The 8-bit operand field, the byte at `HL` among its values (R123) -/

def State.operand (s : State) : Operand8 → Byte
  | .reg r => s.reg r
  | .atHL => s.memRead s.hl

def State.setOperand (s : State) (o : Operand8) (v : Byte) : State :=
  match o with
  | .reg r => s.setReg r v
  | .atHL => s.memWrite s.hl v

/-! ### Addresses and displacements -/

/-- The address `0xFF00 + zext_16(n)` of the `LDH` forms (R161 to R164). -/
def highPage (n : Byte) : Word := 0xFF00 + n.setWidth 16

/-- `sext_16(e)` (R129). -/
def sext16 (e : Byte) : Word := e.signExtend 16

/-- The address of an indirect accumulator access (R155 to R158, R165 to R168). -/
def State.indirect (s : State) : Indirect → Word
  | .bc => s.bc | .de => s.de | .hlInc => s.hl | .hlDec => s.hl

/-- What an indirect access does to `HL` afterwards (R165 to R168). -/
def State.afterIndirect (s : State) : Indirect → State
  | .bc => s
  | .de => s
  | .hlInc => s.setHL (s.hl + 1)
  | .hlDec => s.setHL (s.hl - 1)

end Sys2Proof.Machine
end

