-- ==== Sys2Proof/Machine/Flags.lean ====
section
/-! DEFINITION. The flags (10_state R24, 00_scope R16), the conditions, and every result and flag computation of the
arithmetic, logic, rotate and shift instructions (42_alu8, 43_alu16, 44_rotate_shift_bit). Sums are taken in the
integers and narrowed at the end (R12). -/

namespace Sys2Proof.Machine

/-! ### The flag register (R24) -/

def State.zFlag (s : State) : Bool := s.f.getLsbD 7
def State.nFlag (s : State) : Bool := s.f.getLsbD 6
def State.hFlag (s : State) : Bool := s.f.getLsbD 5
def State.cFlag (s : State) : Bool := s.f.getLsbD 4

/-- The four flags of an operation. -/
structure Flags where
  z : Bool
  n : Bool
  h : Bool
  c : Bool
  deriving DecidableEq, Repr

/-- `F` with these flags; its low four bits are 0 (R16, R24). -/
def Flags.pack (x : Flags) : Byte :=
  (if x.z then 0x80 else 0) ||| (if x.n then 0x40 else 0) ||| (if x.h then 0x20 else 0) ||| (if x.c then 0x10 else 0)

/-- A flag write: all of `F` (R16). -/
def State.setFlags (s : State) (x : Flags) : State := { s with f := x.pack }

/-- `cond(cc)` (R126, R280). -/
def State.cond (s : State) : Cond → Bool
  | .nz => !s.zFlag | .z => s.zFlag | .nc => !s.cFlag | .c => s.cFlag

/-! ### 8-bit arithmetic and logic -/

/-- `add8(a, v, cin)` (R190). -/
def add8 (a v : Byte) (cin : Bool) : Byte × Flags :=
  let sum := a.toNat + v.toNat + cin.toNat
  let res := BitVec.ofNat 8 sum
  (res, { z := res == 0, n := false, h := decide (a.toNat % 16 + v.toNat % 16 + cin.toNat > 0xF), c := decide (sum > 0xFF) })

/-- `sub8(a, v, cin)` (R191); `C` and `H` are borrows. -/
def sub8 (a v : Byte) (cin : Bool) : Byte × Flags :=
  let res := BitVec.ofInt 8 ((a.toNat : Int) - v.toNat - cin.toNat)
  (res, { z := res == 0, n := true, h := decide (a.toNat % 16 < v.toNat % 16 + cin.toNat),
          c := decide (a.toNat < v.toNat + cin.toNat) })

/-- `AND` (R204): H=1. -/
def and8 (a v : Byte) : Byte × Flags := (a &&& v, { z := (a &&& v) == 0, n := false, h := true, c := false })

/-- `XOR` (R207). -/
def xor8 (a v : Byte) : Byte × Flags := (a ^^^ v, { z := (a ^^^ v) == 0, n := false, h := false, c := false })

/-- `OR` (R210). -/
def or8 (a v : Byte) : Byte × Flags := (a ||| v, { z := (a ||| v) == 0, n := false, h := false, c := false })

/-- The result and flags of an ALU operation on `a`, `v` and the carry flag (R192 to R215). -/
def aluResult (op : AluOp) (a v : Byte) (cy : Bool) : Byte × Flags :=
  match op with
  | .add => add8 a v false
  | .adc => add8 a v cy
  | .sub => sub8 a v false
  | .sbc => sub8 a v cy
  | .and => and8 a v
  | .xor => xor8 a v
  | .or => or8 a v
  | .cp => sub8 a v false

/-- The accumulator after an ALU operation: the result, but `CP` writes none (R213). -/
def aluAccumulator (op : AluOp) (a res : Byte) : Byte :=
  match op with
  | .cp => a
  | .add | .adc | .sub | .sbc | .and | .xor | .or => res

/-- `INC` (R216): the carry flag is kept. -/
def inc8 (v : Byte) (cy : Bool) : Byte × Flags :=
  (v + 1, { z := v + 1 == 0, n := false, h := decide (v.toNat % 16 = 0xF), c := cy })

/-- `DEC` (R218): the carry flag is kept. -/
def dec8 (v : Byte) (cy : Bool) : Byte × Flags :=
  (v - 1, { z := v - 1 == 0, n := true, h := decide (v.toNat % 16 = 0), c := cy })

/-- `DAA` (R220): from `A` and the flags the previous instruction left. -/
def daa8 (a : Byte) (x : Flags) : Byte × Flags :=
  let high := decide (x.c = true ∨ a.toNat > 0x99)
  let low := decide (x.h = true ∨ a.toNat % 16 > 0x09)
  let a1 : Byte :=
    if x.n then if x.c then a - 0x60 else a
    else if high then a + 0x60 else a
  let a2 : Byte :=
    if x.n then if x.h then a1 - 0x06 else a1
    else if low then a1 + 0x06 else a1
  (a2, { z := a2 == 0, n := x.n, h := false, c := if x.n then x.c else high })

/-- The flags as they stand, for an instruction that keeps some. -/
def State.flags (s : State) : Flags := { z := s.zFlag, n := s.nFlag, h := s.hFlag, c := s.cFlag }

/-! ### 16-bit arithmetic -/

/-- `ADD HL,rr` (R230): Z is kept. -/
def addHL16 (hl v : Word) (z : Bool) : Word × Flags :=
  (hl + v, { z := z, n := false, h := decide (hl.toNat % 0x1000 + v.toNat % 0x1000 > 0xFFF),
             c := decide (hl.toNat + v.toNat > 0xFFFF) })

/-- `SP + e` of `LD HL,SP+e` and `ADD SP,e` (R183, R233): the carries are those of the low byte and the raw operand
byte, both unsigned. -/
def addSigned16 (sp : Word) (e : Byte) : Word × Flags :=
  (sp + sext16 e, { z := false, n := false, h := decide (sp.toNat % 16 + e.toNat % 16 > 0xF),
                    c := decide (sp.toNat % 256 + e.toNat > 0xFF) })

/-! ### Rotates and shifts (R244) -/

/-- `(res, cout)` of the eight functions, on `v` and the carry in. -/
def shift8 (op : RotOp) (v : Byte) (cy : Bool) : Byte × Bool :=
  match op with
  | .rlc => (v <<< 1 ||| (if v.getLsbD 7 then 0x01 else 0), v.getLsbD 7)
  | .rrc => (v >>> 1 ||| (if v.getLsbD 0 then 0x80 else 0), v.getLsbD 0)
  | .rl => (v <<< 1 ||| (if cy then 0x01 else 0), v.getLsbD 7)
  | .rr => (v >>> 1 ||| (if cy then 0x80 else 0), v.getLsbD 0)
  | .sla => (v <<< 1, v.getLsbD 7)
  | .sra => (v >>> 1 ||| (if v.getLsbD 7 then 0x80 else 0), v.getLsbD 0)
  | .swap => (v <<< 4 ||| v >>> 4, false)
  | .srl => (v >>> 1, v.getLsbD 0)

end Sys2Proof.Machine
end

