-- ==== Sys2Proof/Machine/Load8.lean ====
section
/-! DEFINITION. The meanings of the 8-bit load and store instructions (40_load8): one definition per table row, over the shared
operations at the head. -/

namespace Sys2Proof.Machine

/-- What a meaning answers. `PC` already holds the address after the instruction on entry (R17, R300). -/
abbrev Result := Host.Outcome State Fault Refusal

/-- `x[d] <- x[src]`, either operand possibly the byte at `HL` (R150, R152, R153). -/
def State.load (s : State) (d src : Operand8) : State := s.setOperand d (s.operand src)

/-- `MemWrite(addr, 1, A)` at an indirect address, then its effect on `HL` (R157, R158, R165, R166). -/
def State.storeIndirect (s : State) (i : Indirect) : State := (s.memWrite (s.indirect i) s.a).afterIndirect i

/-- `A <- MemRead(addr, 1)` at an indirect address, then its effect on `HL` (R155, R156, R167, R168). -/
def State.loadIndirect (s : State) (i : Indirect) : State := { s with a := s.memRead (s.indirect i) }.afterIndirect i

/-- `A <- MemRead(addr, 1)` (R159, R161, R163). -/
def State.loadA (s : State) (addr : Word) : State := { s with a := s.memRead addr }

/-- `MemWrite(addr, 1, A)` (R160, R162, R164). -/
def State.storeA (s : State) (addr : Word) : State := s.memWrite addr s.a

/-- `LD B,B` (R150). -/
def execLd_B_B (s : State) : Result := .next (s.load (.reg .b) (.reg .b))
/-- `LD B,C` (R150). -/
def execLd_B_C (s : State) : Result := .next (s.load (.reg .b) (.reg .c))
/-- `LD B,D` (R150). -/
def execLd_B_D (s : State) : Result := .next (s.load (.reg .b) (.reg .d))
/-- `LD B,E` (R150). -/
def execLd_B_E (s : State) : Result := .next (s.load (.reg .b) (.reg .e))
/-- `LD B,H` (R150). -/
def execLd_B_H (s : State) : Result := .next (s.load (.reg .b) (.reg .h))
/-- `LD B,L` (R150). -/
def execLd_B_L (s : State) : Result := .next (s.load (.reg .b) (.reg .l))
/-- `LD B,(HL)` (R152). -/
def execLd_B_atHL (s : State) : Result := .next (s.load (.reg .b) .atHL)
/-- `LD B,A` (R150). -/
def execLd_B_A (s : State) : Result := .next (s.load (.reg .b) (.reg .a))
/-- `LD C,B` (R150). -/
def execLd_C_B (s : State) : Result := .next (s.load (.reg .c) (.reg .b))
/-- `LD C,C` (R150). -/
def execLd_C_C (s : State) : Result := .next (s.load (.reg .c) (.reg .c))
/-- `LD C,D` (R150). -/
def execLd_C_D (s : State) : Result := .next (s.load (.reg .c) (.reg .d))
/-- `LD C,E` (R150). -/
def execLd_C_E (s : State) : Result := .next (s.load (.reg .c) (.reg .e))
/-- `LD C,H` (R150). -/
def execLd_C_H (s : State) : Result := .next (s.load (.reg .c) (.reg .h))
/-- `LD C,L` (R150). -/
def execLd_C_L (s : State) : Result := .next (s.load (.reg .c) (.reg .l))
/-- `LD C,(HL)` (R152). -/
def execLd_C_atHL (s : State) : Result := .next (s.load (.reg .c) .atHL)
/-- `LD C,A` (R150). -/
def execLd_C_A (s : State) : Result := .next (s.load (.reg .c) (.reg .a))
/-- `LD D,B` (R150). -/
def execLd_D_B (s : State) : Result := .next (s.load (.reg .d) (.reg .b))
/-- `LD D,C` (R150). -/
def execLd_D_C (s : State) : Result := .next (s.load (.reg .d) (.reg .c))
/-- `LD D,D` (R150). -/
def execLd_D_D (s : State) : Result := .next (s.load (.reg .d) (.reg .d))
/-- `LD D,E` (R150). -/
def execLd_D_E (s : State) : Result := .next (s.load (.reg .d) (.reg .e))
/-- `LD D,H` (R150). -/
def execLd_D_H (s : State) : Result := .next (s.load (.reg .d) (.reg .h))
/-- `LD D,L` (R150). -/
def execLd_D_L (s : State) : Result := .next (s.load (.reg .d) (.reg .l))
/-- `LD D,(HL)` (R152). -/
def execLd_D_atHL (s : State) : Result := .next (s.load (.reg .d) .atHL)
/-- `LD D,A` (R150). -/
def execLd_D_A (s : State) : Result := .next (s.load (.reg .d) (.reg .a))
/-- `LD E,B` (R150). -/
def execLd_E_B (s : State) : Result := .next (s.load (.reg .e) (.reg .b))
/-- `LD E,C` (R150). -/
def execLd_E_C (s : State) : Result := .next (s.load (.reg .e) (.reg .c))
/-- `LD E,D` (R150). -/
def execLd_E_D (s : State) : Result := .next (s.load (.reg .e) (.reg .d))
/-- `LD E,E` (R150). -/
def execLd_E_E (s : State) : Result := .next (s.load (.reg .e) (.reg .e))
/-- `LD E,H` (R150). -/
def execLd_E_H (s : State) : Result := .next (s.load (.reg .e) (.reg .h))
/-- `LD E,L` (R150). -/
def execLd_E_L (s : State) : Result := .next (s.load (.reg .e) (.reg .l))
/-- `LD E,(HL)` (R152). -/
def execLd_E_atHL (s : State) : Result := .next (s.load (.reg .e) .atHL)
/-- `LD E,A` (R150). -/
def execLd_E_A (s : State) : Result := .next (s.load (.reg .e) (.reg .a))
/-- `LD H,B` (R150). -/
def execLd_H_B (s : State) : Result := .next (s.load (.reg .h) (.reg .b))
/-- `LD H,C` (R150). -/
def execLd_H_C (s : State) : Result := .next (s.load (.reg .h) (.reg .c))
/-- `LD H,D` (R150). -/
def execLd_H_D (s : State) : Result := .next (s.load (.reg .h) (.reg .d))
/-- `LD H,E` (R150). -/
def execLd_H_E (s : State) : Result := .next (s.load (.reg .h) (.reg .e))
/-- `LD H,H` (R150). -/
def execLd_H_H (s : State) : Result := .next (s.load (.reg .h) (.reg .h))
/-- `LD H,L` (R150). -/
def execLd_H_L (s : State) : Result := .next (s.load (.reg .h) (.reg .l))
/-- `LD H,(HL)` (R152). -/
def execLd_H_atHL (s : State) : Result := .next (s.load (.reg .h) .atHL)
/-- `LD H,A` (R150). -/
def execLd_H_A (s : State) : Result := .next (s.load (.reg .h) (.reg .a))
/-- `LD L,B` (R150). -/
def execLd_L_B (s : State) : Result := .next (s.load (.reg .l) (.reg .b))
/-- `LD L,C` (R150). -/
def execLd_L_C (s : State) : Result := .next (s.load (.reg .l) (.reg .c))
/-- `LD L,D` (R150). -/
def execLd_L_D (s : State) : Result := .next (s.load (.reg .l) (.reg .d))
/-- `LD L,E` (R150). -/
def execLd_L_E (s : State) : Result := .next (s.load (.reg .l) (.reg .e))
/-- `LD L,H` (R150). -/
def execLd_L_H (s : State) : Result := .next (s.load (.reg .l) (.reg .h))
/-- `LD L,L` (R150). -/
def execLd_L_L (s : State) : Result := .next (s.load (.reg .l) (.reg .l))
/-- `LD L,(HL)` (R152). -/
def execLd_L_atHL (s : State) : Result := .next (s.load (.reg .l) .atHL)
/-- `LD L,A` (R150). -/
def execLd_L_A (s : State) : Result := .next (s.load (.reg .l) (.reg .a))
/-- `LD (HL),B` (R153). -/
def execLd_atHL_B (s : State) : Result := .next (s.load .atHL (.reg .b))
/-- `LD (HL),C` (R153). -/
def execLd_atHL_C (s : State) : Result := .next (s.load .atHL (.reg .c))
/-- `LD (HL),D` (R153). -/
def execLd_atHL_D (s : State) : Result := .next (s.load .atHL (.reg .d))
/-- `LD (HL),E` (R153). -/
def execLd_atHL_E (s : State) : Result := .next (s.load .atHL (.reg .e))
/-- `LD (HL),H` (R153). -/
def execLd_atHL_H (s : State) : Result := .next (s.load .atHL (.reg .h))
/-- `LD (HL),L` (R153). -/
def execLd_atHL_L (s : State) : Result := .next (s.load .atHL (.reg .l))
/-- `LD (HL),A` (R153). -/
def execLd_atHL_A (s : State) : Result := .next (s.load .atHL (.reg .a))
/-- `LD A,B` (R150). -/
def execLd_A_B (s : State) : Result := .next (s.load (.reg .a) (.reg .b))
/-- `LD A,C` (R150). -/
def execLd_A_C (s : State) : Result := .next (s.load (.reg .a) (.reg .c))
/-- `LD A,D` (R150). -/
def execLd_A_D (s : State) : Result := .next (s.load (.reg .a) (.reg .d))
/-- `LD A,E` (R150). -/
def execLd_A_E (s : State) : Result := .next (s.load (.reg .a) (.reg .e))
/-- `LD A,H` (R150). -/
def execLd_A_H (s : State) : Result := .next (s.load (.reg .a) (.reg .h))
/-- `LD A,L` (R150). -/
def execLd_A_L (s : State) : Result := .next (s.load (.reg .a) (.reg .l))
/-- `LD A,(HL)` (R152). -/
def execLd_A_atHL (s : State) : Result := .next (s.load (.reg .a) .atHL)
/-- `LD A,A` (R150). -/
def execLd_A_A (s : State) : Result := .next (s.load (.reg .a) (.reg .a))
/-- `LD B,n` (R151). -/
def execLd_B_n (n : Byte) (s : State) : Result := .next (s.setOperand (.reg .b) n)
/-- `LD C,n` (R151). -/
def execLd_C_n (n : Byte) (s : State) : Result := .next (s.setOperand (.reg .c) n)
/-- `LD D,n` (R151). -/
def execLd_D_n (n : Byte) (s : State) : Result := .next (s.setOperand (.reg .d) n)
/-- `LD E,n` (R151). -/
def execLd_E_n (n : Byte) (s : State) : Result := .next (s.setOperand (.reg .e) n)
/-- `LD H,n` (R151). -/
def execLd_H_n (n : Byte) (s : State) : Result := .next (s.setOperand (.reg .h) n)
/-- `LD L,n` (R151). -/
def execLd_L_n (n : Byte) (s : State) : Result := .next (s.setOperand (.reg .l) n)
/-- `LD (HL),n` (R154). -/
def execLd_atHL_n (n : Byte) (s : State) : Result := .next (s.setOperand .atHL n)
/-- `LD A,n` (R151). -/
def execLd_A_n (n : Byte) (s : State) : Result := .next (s.setOperand (.reg .a) n)
/-- `LD (BC),A` (R157). -/
def execLd_atBC_A (s : State) : Result := .next (s.storeIndirect .bc)
/-- `LD A,(BC)` (R155). -/
def execLd_A_atBC (s : State) : Result := .next (s.loadIndirect .bc)
/-- `LD (DE),A` (R158). -/
def execLd_atDE_A (s : State) : Result := .next (s.storeIndirect .de)
/-- `LD A,(DE)` (R156). -/
def execLd_A_atDE (s : State) : Result := .next (s.loadIndirect .de)
/-- `LD (HL+),A` (R165). -/
def execLd_atHLinc_A (s : State) : Result := .next (s.storeIndirect .hlInc)
/-- `LD A,(HL+)` (R167). -/
def execLd_A_atHLinc (s : State) : Result := .next (s.loadIndirect .hlInc)
/-- `LD (HL-),A` (R166). -/
def execLd_atHLdec_A (s : State) : Result := .next (s.storeIndirect .hlDec)
/-- `LD A,(HL-)` (R168). -/
def execLd_A_atHLdec (s : State) : Result := .next (s.loadIndirect .hlDec)
/-- `LD A,(nn)` (R159). -/
def execLd_A_atNN (nn : Word) (s : State) : Result := .next (s.loadA nn)
/-- `LD (nn),A` (R160). -/
def execLd_atNN_A (nn : Word) (s : State) : Result := .next (s.storeA nn)
/-- `LDH A,(n)` (R161). -/
def execLdh_A_atN (n : Byte) (s : State) : Result := .next (s.loadA (highPage n))
/-- `LDH (n),A` (R162). -/
def execLdh_atN_A (n : Byte) (s : State) : Result := .next (s.storeA (highPage n))
/-- `LDH A,(C)` (R163). -/
def execLdh_A_atC (s : State) : Result := .next (s.loadA (highPage s.c))
/-- `LDH (C),A` (R164). -/
def execLdh_atC_A (s : State) : Result := .next (s.storeA (highPage s.c))

end Sys2Proof.Machine
end

