-- ==== Sys2Proof/Machine/Alu16.lean ====
section
/-! DEFINITION. The meanings of the 16-bit arithmetic instructions (43_alu16). -/

namespace Sys2Proof.Machine

/-- `HL <- HL + rr[p]` with its flags (R230). -/
def State.addToHL (s : State) (p : Pair) : State :=
  (s.setHL (addHL16 s.hl (s.pair p) s.zFlag).1).setFlags (addHL16 s.hl (s.pair p) s.zFlag).2

/-- `SP <- SP + sext_16(e)` with its flags (R233). -/
def State.addToSP (s : State) (e : Byte) : State :=
  { s with sp := (addSigned16 s.sp e).1 }.setFlags (addSigned16 s.sp e).2

/-- `ADD HL,BC` (R230). -/
def execAdd_HL_BC (s : State) : Result := .next (s.addToHL .bc)
/-- `INC BC` (R231). -/
def execInc_BC (s : State) : Result := .next (s.setPair .bc (s.pair .bc + 1))
/-- `DEC BC` (R232). -/
def execDec_BC (s : State) : Result := .next (s.setPair .bc (s.pair .bc - 1))
/-- `ADD HL,DE` (R230). -/
def execAdd_HL_DE (s : State) : Result := .next (s.addToHL .de)
/-- `INC DE` (R231). -/
def execInc_DE (s : State) : Result := .next (s.setPair .de (s.pair .de + 1))
/-- `DEC DE` (R232). -/
def execDec_DE (s : State) : Result := .next (s.setPair .de (s.pair .de - 1))
/-- `ADD HL,HL` (R230). -/
def execAdd_HL_HL (s : State) : Result := .next (s.addToHL .hl)
/-- `INC HL` (R231). -/
def execInc_HL (s : State) : Result := .next (s.setPair .hl (s.pair .hl + 1))
/-- `DEC HL` (R232). -/
def execDec_HL (s : State) : Result := .next (s.setPair .hl (s.pair .hl - 1))
/-- `ADD HL,SP` (R230). -/
def execAdd_HL_SP (s : State) : Result := .next (s.addToHL .sp)
/-- `INC SP` (R231). -/
def execInc_SP (s : State) : Result := .next (s.setPair .sp (s.pair .sp + 1))
/-- `DEC SP` (R232). -/
def execDec_SP (s : State) : Result := .next (s.setPair .sp (s.pair .sp - 1))
/-- `ADD SP,e` (R233). -/
def execAdd_SP_e (e : Byte) (s : State) : Result := .next (s.addToSP e)

end Sys2Proof.Machine
end

