-- ==== Sys2Proof/Machine/Alu8.lean ====
section
/-! DEFINITION. The meanings of the 8-bit arithmetic and logic instructions (42_alu8). -/

namespace Sys2Proof.Machine

/-- An ALU operation on `A` and the value `v` (R192 to R215). -/
def State.alu (s : State) (op : AluOp) (v : Byte) : State :=
  { s with a := aluAccumulator op s.a (aluResult op s.a v s.cFlag).1 }.setFlags (aluResult op s.a v s.cFlag).2

/-- `INC r` and `INC (HL)` (R216, R217): the flags come from the byte read. -/
def State.increment (s : State) (o : Operand8) : State :=
  (s.setOperand o (inc8 (s.operand o) s.cFlag).1).setFlags (inc8 (s.operand o) s.cFlag).2

/-- `DEC r` and `DEC (HL)` (R218, R219). -/
def State.decrement (s : State) (o : Operand8) : State :=
  (s.setOperand o (dec8 (s.operand o) s.cFlag).1).setFlags (dec8 (s.operand o) s.cFlag).2

/-- `DAA` (R220). -/
def State.decimalAdjust (s : State) : State := { s with a := (daa8 s.a s.flags).1 }.setFlags (daa8 s.a s.flags).2

/-- `ADD A,B` (R192). -/
def execAdd_A_B (s : State) : Result := .next (s.alu .add (s.operand (.reg .b)))
/-- `ADD A,C` (R192). -/
def execAdd_A_C (s : State) : Result := .next (s.alu .add (s.operand (.reg .c)))
/-- `ADD A,D` (R192). -/
def execAdd_A_D (s : State) : Result := .next (s.alu .add (s.operand (.reg .d)))
/-- `ADD A,E` (R192). -/
def execAdd_A_E (s : State) : Result := .next (s.alu .add (s.operand (.reg .e)))
/-- `ADD A,H` (R192). -/
def execAdd_A_H (s : State) : Result := .next (s.alu .add (s.operand (.reg .h)))
/-- `ADD A,L` (R192). -/
def execAdd_A_L (s : State) : Result := .next (s.alu .add (s.operand (.reg .l)))
/-- `ADD A,(HL)` (R193). -/
def execAdd_A_atHL (s : State) : Result := .next (s.alu .add (s.operand .atHL))
/-- `ADD A,A` (R192). -/
def execAdd_A_A (s : State) : Result := .next (s.alu .add (s.operand (.reg .a)))
/-- `ADD A,n` (R194). -/
def execAdd_A_n (n : Byte) (s : State) : Result := .next (s.alu .add n)
/-- `ADC A,B` (R195). -/
def execAdc_A_B (s : State) : Result := .next (s.alu .adc (s.operand (.reg .b)))
/-- `ADC A,C` (R195). -/
def execAdc_A_C (s : State) : Result := .next (s.alu .adc (s.operand (.reg .c)))
/-- `ADC A,D` (R195). -/
def execAdc_A_D (s : State) : Result := .next (s.alu .adc (s.operand (.reg .d)))
/-- `ADC A,E` (R195). -/
def execAdc_A_E (s : State) : Result := .next (s.alu .adc (s.operand (.reg .e)))
/-- `ADC A,H` (R195). -/
def execAdc_A_H (s : State) : Result := .next (s.alu .adc (s.operand (.reg .h)))
/-- `ADC A,L` (R195). -/
def execAdc_A_L (s : State) : Result := .next (s.alu .adc (s.operand (.reg .l)))
/-- `ADC A,(HL)` (R196). -/
def execAdc_A_atHL (s : State) : Result := .next (s.alu .adc (s.operand .atHL))
/-- `ADC A,A` (R195). -/
def execAdc_A_A (s : State) : Result := .next (s.alu .adc (s.operand (.reg .a)))
/-- `ADC A,n` (R197). -/
def execAdc_A_n (n : Byte) (s : State) : Result := .next (s.alu .adc n)
/-- `SUB A,B` (R198). -/
def execSub_A_B (s : State) : Result := .next (s.alu .sub (s.operand (.reg .b)))
/-- `SUB A,C` (R198). -/
def execSub_A_C (s : State) : Result := .next (s.alu .sub (s.operand (.reg .c)))
/-- `SUB A,D` (R198). -/
def execSub_A_D (s : State) : Result := .next (s.alu .sub (s.operand (.reg .d)))
/-- `SUB A,E` (R198). -/
def execSub_A_E (s : State) : Result := .next (s.alu .sub (s.operand (.reg .e)))
/-- `SUB A,H` (R198). -/
def execSub_A_H (s : State) : Result := .next (s.alu .sub (s.operand (.reg .h)))
/-- `SUB A,L` (R198). -/
def execSub_A_L (s : State) : Result := .next (s.alu .sub (s.operand (.reg .l)))
/-- `SUB A,(HL)` (R199). -/
def execSub_A_atHL (s : State) : Result := .next (s.alu .sub (s.operand .atHL))
/-- `SUB A,A` (R198). -/
def execSub_A_A (s : State) : Result := .next (s.alu .sub (s.operand (.reg .a)))
/-- `SUB A,n` (R200). -/
def execSub_A_n (n : Byte) (s : State) : Result := .next (s.alu .sub n)
/-- `SBC A,B` (R201). -/
def execSbc_A_B (s : State) : Result := .next (s.alu .sbc (s.operand (.reg .b)))
/-- `SBC A,C` (R201). -/
def execSbc_A_C (s : State) : Result := .next (s.alu .sbc (s.operand (.reg .c)))
/-- `SBC A,D` (R201). -/
def execSbc_A_D (s : State) : Result := .next (s.alu .sbc (s.operand (.reg .d)))
/-- `SBC A,E` (R201). -/
def execSbc_A_E (s : State) : Result := .next (s.alu .sbc (s.operand (.reg .e)))
/-- `SBC A,H` (R201). -/
def execSbc_A_H (s : State) : Result := .next (s.alu .sbc (s.operand (.reg .h)))
/-- `SBC A,L` (R201). -/
def execSbc_A_L (s : State) : Result := .next (s.alu .sbc (s.operand (.reg .l)))
/-- `SBC A,(HL)` (R202). -/
def execSbc_A_atHL (s : State) : Result := .next (s.alu .sbc (s.operand .atHL))
/-- `SBC A,A` (R201). -/
def execSbc_A_A (s : State) : Result := .next (s.alu .sbc (s.operand (.reg .a)))
/-- `SBC A,n` (R203). -/
def execSbc_A_n (n : Byte) (s : State) : Result := .next (s.alu .sbc n)
/-- `AND A,B` (R204). -/
def execAnd_A_B (s : State) : Result := .next (s.alu .and (s.operand (.reg .b)))
/-- `AND A,C` (R204). -/
def execAnd_A_C (s : State) : Result := .next (s.alu .and (s.operand (.reg .c)))
/-- `AND A,D` (R204). -/
def execAnd_A_D (s : State) : Result := .next (s.alu .and (s.operand (.reg .d)))
/-- `AND A,E` (R204). -/
def execAnd_A_E (s : State) : Result := .next (s.alu .and (s.operand (.reg .e)))
/-- `AND A,H` (R204). -/
def execAnd_A_H (s : State) : Result := .next (s.alu .and (s.operand (.reg .h)))
/-- `AND A,L` (R204). -/
def execAnd_A_L (s : State) : Result := .next (s.alu .and (s.operand (.reg .l)))
/-- `AND A,(HL)` (R205). -/
def execAnd_A_atHL (s : State) : Result := .next (s.alu .and (s.operand .atHL))
/-- `AND A,A` (R204). -/
def execAnd_A_A (s : State) : Result := .next (s.alu .and (s.operand (.reg .a)))
/-- `AND A,n` (R206). -/
def execAnd_A_n (n : Byte) (s : State) : Result := .next (s.alu .and n)
/-- `XOR A,B` (R207). -/
def execXor_A_B (s : State) : Result := .next (s.alu .xor (s.operand (.reg .b)))
/-- `XOR A,C` (R207). -/
def execXor_A_C (s : State) : Result := .next (s.alu .xor (s.operand (.reg .c)))
/-- `XOR A,D` (R207). -/
def execXor_A_D (s : State) : Result := .next (s.alu .xor (s.operand (.reg .d)))
/-- `XOR A,E` (R207). -/
def execXor_A_E (s : State) : Result := .next (s.alu .xor (s.operand (.reg .e)))
/-- `XOR A,H` (R207). -/
def execXor_A_H (s : State) : Result := .next (s.alu .xor (s.operand (.reg .h)))
/-- `XOR A,L` (R207). -/
def execXor_A_L (s : State) : Result := .next (s.alu .xor (s.operand (.reg .l)))
/-- `XOR A,(HL)` (R208). -/
def execXor_A_atHL (s : State) : Result := .next (s.alu .xor (s.operand .atHL))
/-- `XOR A,A` (R207). -/
def execXor_A_A (s : State) : Result := .next (s.alu .xor (s.operand (.reg .a)))
/-- `XOR A,n` (R209). -/
def execXor_A_n (n : Byte) (s : State) : Result := .next (s.alu .xor n)
/-- `OR A,B` (R210). -/
def execOr_A_B (s : State) : Result := .next (s.alu .or (s.operand (.reg .b)))
/-- `OR A,C` (R210). -/
def execOr_A_C (s : State) : Result := .next (s.alu .or (s.operand (.reg .c)))
/-- `OR A,D` (R210). -/
def execOr_A_D (s : State) : Result := .next (s.alu .or (s.operand (.reg .d)))
/-- `OR A,E` (R210). -/
def execOr_A_E (s : State) : Result := .next (s.alu .or (s.operand (.reg .e)))
/-- `OR A,H` (R210). -/
def execOr_A_H (s : State) : Result := .next (s.alu .or (s.operand (.reg .h)))
/-- `OR A,L` (R210). -/
def execOr_A_L (s : State) : Result := .next (s.alu .or (s.operand (.reg .l)))
/-- `OR A,(HL)` (R211). -/
def execOr_A_atHL (s : State) : Result := .next (s.alu .or (s.operand .atHL))
/-- `OR A,A` (R210). -/
def execOr_A_A (s : State) : Result := .next (s.alu .or (s.operand (.reg .a)))
/-- `OR A,n` (R212). -/
def execOr_A_n (n : Byte) (s : State) : Result := .next (s.alu .or n)
/-- `CP A,B` (R213). -/
def execCp_A_B (s : State) : Result := .next (s.alu .cp (s.operand (.reg .b)))
/-- `CP A,C` (R213). -/
def execCp_A_C (s : State) : Result := .next (s.alu .cp (s.operand (.reg .c)))
/-- `CP A,D` (R213). -/
def execCp_A_D (s : State) : Result := .next (s.alu .cp (s.operand (.reg .d)))
/-- `CP A,E` (R213). -/
def execCp_A_E (s : State) : Result := .next (s.alu .cp (s.operand (.reg .e)))
/-- `CP A,H` (R213). -/
def execCp_A_H (s : State) : Result := .next (s.alu .cp (s.operand (.reg .h)))
/-- `CP A,L` (R213). -/
def execCp_A_L (s : State) : Result := .next (s.alu .cp (s.operand (.reg .l)))
/-- `CP A,(HL)` (R214). -/
def execCp_A_atHL (s : State) : Result := .next (s.alu .cp (s.operand .atHL))
/-- `CP A,A` (R213). -/
def execCp_A_A (s : State) : Result := .next (s.alu .cp (s.operand (.reg .a)))
/-- `CP A,n` (R215). -/
def execCp_A_n (n : Byte) (s : State) : Result := .next (s.alu .cp n)
/-- `INC B` (R216). -/
def execInc_B (s : State) : Result := .next (s.increment (.reg .b))
/-- `INC C` (R216). -/
def execInc_C (s : State) : Result := .next (s.increment (.reg .c))
/-- `INC D` (R216). -/
def execInc_D (s : State) : Result := .next (s.increment (.reg .d))
/-- `INC E` (R216). -/
def execInc_E (s : State) : Result := .next (s.increment (.reg .e))
/-- `INC H` (R216). -/
def execInc_H (s : State) : Result := .next (s.increment (.reg .h))
/-- `INC L` (R216). -/
def execInc_L (s : State) : Result := .next (s.increment (.reg .l))
/-- `INC (HL)` (R217). -/
def execInc_atHL (s : State) : Result := .next (s.increment .atHL)
/-- `INC A` (R216). -/
def execInc_A (s : State) : Result := .next (s.increment (.reg .a))
/-- `DEC B` (R218). -/
def execDec_B (s : State) : Result := .next (s.decrement (.reg .b))
/-- `DEC C` (R218). -/
def execDec_C (s : State) : Result := .next (s.decrement (.reg .c))
/-- `DEC D` (R218). -/
def execDec_D (s : State) : Result := .next (s.decrement (.reg .d))
/-- `DEC E` (R218). -/
def execDec_E (s : State) : Result := .next (s.decrement (.reg .e))
/-- `DEC H` (R218). -/
def execDec_H (s : State) : Result := .next (s.decrement (.reg .h))
/-- `DEC L` (R218). -/
def execDec_L (s : State) : Result := .next (s.decrement (.reg .l))
/-- `DEC (HL)` (R219). -/
def execDec_atHL (s : State) : Result := .next (s.decrement .atHL)
/-- `DEC A` (R218). -/
def execDec_A (s : State) : Result := .next (s.decrement (.reg .a))
/-- `DAA` (R220). -/
def execDaa (s : State) : Result := .next (s.decimalAdjust)
/-- `CPL` (R221). -/
def execCpl (s : State) : Result := .next ({ s with a := ~~~s.a }.setFlags { s.flags with n := true, h := true })
/-- `SCF` (R222). -/
def execScf (s : State) : Result := .next (s.setFlags { s.flags with n := false, h := false, c := true })
/-- `CCF` (R223). -/
def execCcf (s : State) : Result := .next (s.setFlags { s.flags with n := false, h := false, c := !s.cFlag })

end Sys2Proof.Machine
end

