-- ==== Sys2Proof/Machine/Control.lean ====
section
/-! DEFINITION. The meanings of the control transfer instructions (45_control). On entry `PC` is `PCnext`. -/

namespace Sys2Proof.Machine

/-- `pc <- PCnext + sext_16(e)` (R284). -/
def State.jumpRelative (s : State) (e : Byte) : State := { s with pc := s.pc + sext16 e }

/-- `Push16(PCnext); pc <- target` (R286, R291). -/
def State.callTo (s : State) (target : Word) : State := { s.push16 s.pc with pc := target }

/-- `pc <- Pop16()` (R288). -/
def State.returnTo (s : State) : State := { s.popped with pc := s.popValue }

/-- A conditional transfer does nothing at all when its condition is false (R280). -/
def State.onlyIf (s : State) (cc : Cond) (t : State) : State := if s.cond cc then t else s

/-- `JP nn` (R281). -/
def execJp (nn : Word) (s : State) : Result := .next ({ s with pc := nn })
/-- `JP HL` (R283). -/
def execJp_HL (s : State) : Result := .next ({ s with pc := s.hl })
/-- `JR e` (R284). -/
def execJr (e : Byte) (s : State) : Result := .next (s.jumpRelative e)
/-- `CALL nn` (R286). -/
def execCall (nn : Word) (s : State) : Result := .next (s.callTo nn)
/-- `RET` (R288). -/
def execRet (s : State) : Result := .next (s.returnTo)
/-- `RETI` (R290). -/
def execReti (s : State) : Result := .next (s.returnFromInterrupt)
/-- `JP NZ,nn` (R282). -/
def execJp_NZ (nn : Word) (s : State) : Result := .next (s.onlyIf .nz { s with pc := nn })
/-- `JR NZ,e` (R285). -/
def execJr_NZ (e : Byte) (s : State) : Result := .next (s.onlyIf .nz (s.jumpRelative e))
/-- `CALL NZ,nn` (R287). -/
def execCall_NZ (nn : Word) (s : State) : Result := .next (s.onlyIf .nz (s.callTo nn))
/-- `RET NZ` (R289). -/
def execRet_NZ (s : State) : Result := .next (s.onlyIf .nz s.returnTo)
/-- `JP Z,nn` (R282). -/
def execJp_Z (nn : Word) (s : State) : Result := .next (s.onlyIf .z { s with pc := nn })
/-- `JR Z,e` (R285). -/
def execJr_Z (e : Byte) (s : State) : Result := .next (s.onlyIf .z (s.jumpRelative e))
/-- `CALL Z,nn` (R287). -/
def execCall_Z (nn : Word) (s : State) : Result := .next (s.onlyIf .z (s.callTo nn))
/-- `RET Z` (R289). -/
def execRet_Z (s : State) : Result := .next (s.onlyIf .z s.returnTo)
/-- `JP NC,nn` (R282). -/
def execJp_NC (nn : Word) (s : State) : Result := .next (s.onlyIf .nc { s with pc := nn })
/-- `JR NC,e` (R285). -/
def execJr_NC (e : Byte) (s : State) : Result := .next (s.onlyIf .nc (s.jumpRelative e))
/-- `CALL NC,nn` (R287). -/
def execCall_NC (nn : Word) (s : State) : Result := .next (s.onlyIf .nc (s.callTo nn))
/-- `RET NC` (R289). -/
def execRet_NC (s : State) : Result := .next (s.onlyIf .nc s.returnTo)
/-- `JP C,nn` (R282). -/
def execJp_C (nn : Word) (s : State) : Result := .next (s.onlyIf .c { s with pc := nn })
/-- `JR C,e` (R285). -/
def execJr_C (e : Byte) (s : State) : Result := .next (s.onlyIf .c (s.jumpRelative e))
/-- `CALL C,nn` (R287). -/
def execCall_C (nn : Word) (s : State) : Result := .next (s.onlyIf .c (s.callTo nn))
/-- `RET C` (R289). -/
def execRet_C (s : State) : Result := .next (s.onlyIf .c s.returnTo)
/-- `RST 0x00` (R291). -/
def execRst_00 (s : State) : Result := .next (s.callTo 0x0000)
/-- `RST 0x08` (R291). -/
def execRst_08 (s : State) : Result := .next (s.callTo 0x0008)
/-- `RST 0x10` (R291). -/
def execRst_10 (s : State) : Result := .next (s.callTo 0x0010)
/-- `RST 0x18` (R291). -/
def execRst_18 (s : State) : Result := .next (s.callTo 0x0018)
/-- `RST 0x20` (R291). -/
def execRst_20 (s : State) : Result := .next (s.callTo 0x0020)
/-- `RST 0x28` (R291). -/
def execRst_28 (s : State) : Result := .next (s.callTo 0x0028)
/-- `RST 0x30` (R291). -/
def execRst_30 (s : State) : Result := .next (s.callTo 0x0030)
/-- `RST 0x38` (R291). -/
def execRst_38 (s : State) : Result := .next (s.callTo 0x0038)

end Sys2Proof.Machine
end

