-- ==== Sys2Proof/Machine/Load16.lean ====
section
/-! DEFINITION. The meanings of the 16-bit load and stack instructions (41_load16_stack). -/

namespace Sys2Proof.Machine

/-- `rr2[pp] <- Pop16()`; for `AF` the low four bits of `F` are dropped (R185, R186). -/
def State.popPair (s : State) (p : StackPair) : State := s.popped.setStackPair p s.popValue

/-- `HL <- SP + sext_16(e)` with its flags (R183). -/
def State.loadHLSigned (s : State) (e : Byte) : State :=
  (s.setHL (addSigned16 s.sp e).1).setFlags (addSigned16 s.sp e).2

/-- `LD BC,nn` (R180). -/
def execLd_BC_nn (nn : Word) (s : State) : Result := .next (s.setPair .bc nn)
/-- `LD DE,nn` (R180). -/
def execLd_DE_nn (nn : Word) (s : State) : Result := .next (s.setPair .de nn)
/-- `LD HL,nn` (R180). -/
def execLd_HL_nn (nn : Word) (s : State) : Result := .next (s.setPair .hl nn)
/-- `LD SP,nn` (R180). -/
def execLd_SP_nn (nn : Word) (s : State) : Result := .next (s.setPair .sp nn)
/-- `LD (nn),SP` (R181). -/
def execLd_atNN_SP (nn : Word) (s : State) : Result := .next (s.write16 nn s.sp true)
/-- `LD SP,HL` (R182). -/
def execLd_SP_HL (s : State) : Result := .next ({ s with sp := s.hl })
/-- `LD HL,SP+e` (R183). -/
def execLd_HL_SPe (e : Byte) (s : State) : Result := .next (s.loadHLSigned e)
/-- `PUSH BC` (R184). -/
def execPush_BC (s : State) : Result := .next (s.push16 (s.stackPair .bc))
/-- `POP BC` (R185). -/
def execPop_BC (s : State) : Result := .next (s.popPair .bc)
/-- `PUSH DE` (R184). -/
def execPush_DE (s : State) : Result := .next (s.push16 (s.stackPair .de))
/-- `POP DE` (R185). -/
def execPop_DE (s : State) : Result := .next (s.popPair .de)
/-- `PUSH HL` (R184). -/
def execPush_HL (s : State) : Result := .next (s.push16 (s.stackPair .hl))
/-- `POP HL` (R185). -/
def execPop_HL (s : State) : Result := .next (s.popPair .hl)
/-- `PUSH AF` (R184). -/
def execPush_AF (s : State) : Result := .next (s.push16 (s.stackPair .af))
/-- `POP AF` (R186). -/
def execPop_AF (s : State) : Result := .next (s.popPair .af)

end Sys2Proof.Machine
end

