-- ==== Sys2Proof/Machine/RotateBit.lean ====
section
/-! DEFINITION. The meanings of the rotate, shift and bit instructions (44_rotate_shift_bit) and of the byte 0xCB with its second
byte (46_system R306). -/

namespace Sys2Proof.Machine

/-- An accumulator rotate (R240 to R243): the flags of the shift, but Z always cleared. -/
def State.rotateA (s : State) (op : RotOp) : State :=
  { s with a := (shift8 op s.a s.cFlag).1 }.setFlags
    { z := false, n := false, h := false, c := (shift8 op s.a s.cFlag).2 }

/-- An extended rotate or shift of an operand (R244 to R260). -/
def State.rotate (s : State) (op : RotOp) (o : Operand8) : State :=
  (s.setOperand o (shift8 op (s.operand o) s.cFlag).1).setFlags
    { z := (shift8 op (s.operand o) s.cFlag).1 == 0, n := false, h := false, c := (shift8 op (s.operand o) s.cFlag).2 }

/-- `BIT b` (R261, R262): Z is the complement of the tested bit; nothing but the flags is written. -/
def State.testBit (s : State) (b : Idx3) (o : Operand8) : State :=
  s.setFlags { z := !(s.operand o).getLsbD b.val, n := false, h := true, c := s.cFlag }

/-- `RES b` (R263, R264): the write is always performed. -/
def State.resetBit (s : State) (b : Idx3) (o : Operand8) : State :=
  s.setOperand o (s.operand o &&& ~~~((1 : Byte) <<< b.val))

/-- `SET b` (R265, R266). -/
def State.raiseBit (s : State) (b : Idx3) (o : Operand8) : State :=
  s.setOperand o (s.operand o ||| (1 : Byte) <<< b.val)

/-- The operation of the extended table's entry `op2`, by its fields (R131, R306). -/
def State.extended (s : State) (op2 : Byte) : State :=
  match fieldX op2 with
  | .j0 => s.rotate (rotOpOf (fieldY op2)) (operand8Of (fieldZ op2))
  | .j1 => s.testBit (fieldY op2) (operand8Of (fieldZ op2))
  | .j2 => s.resetBit (fieldY op2) (operand8Of (fieldZ op2))
  | .j3 => s.raiseBit (fieldY op2) (operand8Of (fieldZ op2))

/-- `RLCA` (R240). -/
def execRlca (s : State) : Result := .next (s.rotateA .rlc)
/-- `RRCA` (R241). -/
def execRrca (s : State) : Result := .next (s.rotateA .rrc)
/-- `RLA` (R242). -/
def execRla (s : State) : Result := .next (s.rotateA .rl)
/-- `RRA` (R243). -/
def execRra (s : State) : Result := .next (s.rotateA .rr)
/-- `RLC B` (R245). -/
def execRlc_B (s : State) : Result := .next (s.rotate .rlc (.reg .b))
/-- `RLC C` (R245). -/
def execRlc_C (s : State) : Result := .next (s.rotate .rlc (.reg .c))
/-- `RLC D` (R245). -/
def execRlc_D (s : State) : Result := .next (s.rotate .rlc (.reg .d))
/-- `RLC E` (R245). -/
def execRlc_E (s : State) : Result := .next (s.rotate .rlc (.reg .e))
/-- `RLC H` (R245). -/
def execRlc_H (s : State) : Result := .next (s.rotate .rlc (.reg .h))
/-- `RLC L` (R245). -/
def execRlc_L (s : State) : Result := .next (s.rotate .rlc (.reg .l))
/-- `RLC (HL)` (R246). -/
def execRlc_atHL (s : State) : Result := .next (s.rotate .rlc .atHL)
/-- `RLC A` (R245). -/
def execRlc_A (s : State) : Result := .next (s.rotate .rlc (.reg .a))
/-- `RRC B` (R247). -/
def execRrc_B (s : State) : Result := .next (s.rotate .rrc (.reg .b))
/-- `RRC C` (R247). -/
def execRrc_C (s : State) : Result := .next (s.rotate .rrc (.reg .c))
/-- `RRC D` (R247). -/
def execRrc_D (s : State) : Result := .next (s.rotate .rrc (.reg .d))
/-- `RRC E` (R247). -/
def execRrc_E (s : State) : Result := .next (s.rotate .rrc (.reg .e))
/-- `RRC H` (R247). -/
def execRrc_H (s : State) : Result := .next (s.rotate .rrc (.reg .h))
/-- `RRC L` (R247). -/
def execRrc_L (s : State) : Result := .next (s.rotate .rrc (.reg .l))
/-- `RRC (HL)` (R248). -/
def execRrc_atHL (s : State) : Result := .next (s.rotate .rrc .atHL)
/-- `RRC A` (R247). -/
def execRrc_A (s : State) : Result := .next (s.rotate .rrc (.reg .a))
/-- `RL B` (R249). -/
def execRl_B (s : State) : Result := .next (s.rotate .rl (.reg .b))
/-- `RL C` (R249). -/
def execRl_C (s : State) : Result := .next (s.rotate .rl (.reg .c))
/-- `RL D` (R249). -/
def execRl_D (s : State) : Result := .next (s.rotate .rl (.reg .d))
/-- `RL E` (R249). -/
def execRl_E (s : State) : Result := .next (s.rotate .rl (.reg .e))
/-- `RL H` (R249). -/
def execRl_H (s : State) : Result := .next (s.rotate .rl (.reg .h))
/-- `RL L` (R249). -/
def execRl_L (s : State) : Result := .next (s.rotate .rl (.reg .l))
/-- `RL (HL)` (R250). -/
def execRl_atHL (s : State) : Result := .next (s.rotate .rl .atHL)
/-- `RL A` (R249). -/
def execRl_A (s : State) : Result := .next (s.rotate .rl (.reg .a))
/-- `RR B` (R251). -/
def execRr_B (s : State) : Result := .next (s.rotate .rr (.reg .b))
/-- `RR C` (R251). -/
def execRr_C (s : State) : Result := .next (s.rotate .rr (.reg .c))
/-- `RR D` (R251). -/
def execRr_D (s : State) : Result := .next (s.rotate .rr (.reg .d))
/-- `RR E` (R251). -/
def execRr_E (s : State) : Result := .next (s.rotate .rr (.reg .e))
/-- `RR H` (R251). -/
def execRr_H (s : State) : Result := .next (s.rotate .rr (.reg .h))
/-- `RR L` (R251). -/
def execRr_L (s : State) : Result := .next (s.rotate .rr (.reg .l))
/-- `RR (HL)` (R252). -/
def execRr_atHL (s : State) : Result := .next (s.rotate .rr .atHL)
/-- `RR A` (R251). -/
def execRr_A (s : State) : Result := .next (s.rotate .rr (.reg .a))
/-- `SLA B` (R253). -/
def execSla_B (s : State) : Result := .next (s.rotate .sla (.reg .b))
/-- `SLA C` (R253). -/
def execSla_C (s : State) : Result := .next (s.rotate .sla (.reg .c))
/-- `SLA D` (R253). -/
def execSla_D (s : State) : Result := .next (s.rotate .sla (.reg .d))
/-- `SLA E` (R253). -/
def execSla_E (s : State) : Result := .next (s.rotate .sla (.reg .e))
/-- `SLA H` (R253). -/
def execSla_H (s : State) : Result := .next (s.rotate .sla (.reg .h))
/-- `SLA L` (R253). -/
def execSla_L (s : State) : Result := .next (s.rotate .sla (.reg .l))
/-- `SLA (HL)` (R254). -/
def execSla_atHL (s : State) : Result := .next (s.rotate .sla .atHL)
/-- `SLA A` (R253). -/
def execSla_A (s : State) : Result := .next (s.rotate .sla (.reg .a))
/-- `SRA B` (R255). -/
def execSra_B (s : State) : Result := .next (s.rotate .sra (.reg .b))
/-- `SRA C` (R255). -/
def execSra_C (s : State) : Result := .next (s.rotate .sra (.reg .c))
/-- `SRA D` (R255). -/
def execSra_D (s : State) : Result := .next (s.rotate .sra (.reg .d))
/-- `SRA E` (R255). -/
def execSra_E (s : State) : Result := .next (s.rotate .sra (.reg .e))
/-- `SRA H` (R255). -/
def execSra_H (s : State) : Result := .next (s.rotate .sra (.reg .h))
/-- `SRA L` (R255). -/
def execSra_L (s : State) : Result := .next (s.rotate .sra (.reg .l))
/-- `SRA (HL)` (R256). -/
def execSra_atHL (s : State) : Result := .next (s.rotate .sra .atHL)
/-- `SRA A` (R255). -/
def execSra_A (s : State) : Result := .next (s.rotate .sra (.reg .a))
/-- `SWAP B` (R257). -/
def execSwap_B (s : State) : Result := .next (s.rotate .swap (.reg .b))
/-- `SWAP C` (R257). -/
def execSwap_C (s : State) : Result := .next (s.rotate .swap (.reg .c))
/-- `SWAP D` (R257). -/
def execSwap_D (s : State) : Result := .next (s.rotate .swap (.reg .d))
/-- `SWAP E` (R257). -/
def execSwap_E (s : State) : Result := .next (s.rotate .swap (.reg .e))
/-- `SWAP H` (R257). -/
def execSwap_H (s : State) : Result := .next (s.rotate .swap (.reg .h))
/-- `SWAP L` (R257). -/
def execSwap_L (s : State) : Result := .next (s.rotate .swap (.reg .l))
/-- `SWAP (HL)` (R258). -/
def execSwap_atHL (s : State) : Result := .next (s.rotate .swap .atHL)
/-- `SWAP A` (R257). -/
def execSwap_A (s : State) : Result := .next (s.rotate .swap (.reg .a))
/-- `SRL B` (R259). -/
def execSrl_B (s : State) : Result := .next (s.rotate .srl (.reg .b))
/-- `SRL C` (R259). -/
def execSrl_C (s : State) : Result := .next (s.rotate .srl (.reg .c))
/-- `SRL D` (R259). -/
def execSrl_D (s : State) : Result := .next (s.rotate .srl (.reg .d))
/-- `SRL E` (R259). -/
def execSrl_E (s : State) : Result := .next (s.rotate .srl (.reg .e))
/-- `SRL H` (R259). -/
def execSrl_H (s : State) : Result := .next (s.rotate .srl (.reg .h))
/-- `SRL L` (R259). -/
def execSrl_L (s : State) : Result := .next (s.rotate .srl (.reg .l))
/-- `SRL (HL)` (R260). -/
def execSrl_atHL (s : State) : Result := .next (s.rotate .srl .atHL)
/-- `SRL A` (R259). -/
def execSrl_A (s : State) : Result := .next (s.rotate .srl (.reg .a))
/-- `BIT 0,B` (R261). -/
def execBit0_B (s : State) : Result := .next (s.testBit .i0 (.reg .b))
/-- `BIT 0,C` (R261). -/
def execBit0_C (s : State) : Result := .next (s.testBit .i0 (.reg .c))
/-- `BIT 0,D` (R261). -/
def execBit0_D (s : State) : Result := .next (s.testBit .i0 (.reg .d))
/-- `BIT 0,E` (R261). -/
def execBit0_E (s : State) : Result := .next (s.testBit .i0 (.reg .e))
/-- `BIT 0,H` (R261). -/
def execBit0_H (s : State) : Result := .next (s.testBit .i0 (.reg .h))
/-- `BIT 0,L` (R261). -/
def execBit0_L (s : State) : Result := .next (s.testBit .i0 (.reg .l))
/-- `BIT 0,(HL)` (R262). -/
def execBit0_atHL (s : State) : Result := .next (s.testBit .i0 .atHL)
/-- `BIT 0,A` (R261). -/
def execBit0_A (s : State) : Result := .next (s.testBit .i0 (.reg .a))
/-- `BIT 1,B` (R261). -/
def execBit1_B (s : State) : Result := .next (s.testBit .i1 (.reg .b))
/-- `BIT 1,C` (R261). -/
def execBit1_C (s : State) : Result := .next (s.testBit .i1 (.reg .c))
/-- `BIT 1,D` (R261). -/
def execBit1_D (s : State) : Result := .next (s.testBit .i1 (.reg .d))
/-- `BIT 1,E` (R261). -/
def execBit1_E (s : State) : Result := .next (s.testBit .i1 (.reg .e))
/-- `BIT 1,H` (R261). -/
def execBit1_H (s : State) : Result := .next (s.testBit .i1 (.reg .h))
/-- `BIT 1,L` (R261). -/
def execBit1_L (s : State) : Result := .next (s.testBit .i1 (.reg .l))
/-- `BIT 1,(HL)` (R262). -/
def execBit1_atHL (s : State) : Result := .next (s.testBit .i1 .atHL)
/-- `BIT 1,A` (R261). -/
def execBit1_A (s : State) : Result := .next (s.testBit .i1 (.reg .a))
/-- `BIT 2,B` (R261). -/
def execBit2_B (s : State) : Result := .next (s.testBit .i2 (.reg .b))
/-- `BIT 2,C` (R261). -/
def execBit2_C (s : State) : Result := .next (s.testBit .i2 (.reg .c))
/-- `BIT 2,D` (R261). -/
def execBit2_D (s : State) : Result := .next (s.testBit .i2 (.reg .d))
/-- `BIT 2,E` (R261). -/
def execBit2_E (s : State) : Result := .next (s.testBit .i2 (.reg .e))
/-- `BIT 2,H` (R261). -/
def execBit2_H (s : State) : Result := .next (s.testBit .i2 (.reg .h))
/-- `BIT 2,L` (R261). -/
def execBit2_L (s : State) : Result := .next (s.testBit .i2 (.reg .l))
/-- `BIT 2,(HL)` (R262). -/
def execBit2_atHL (s : State) : Result := .next (s.testBit .i2 .atHL)
/-- `BIT 2,A` (R261). -/
def execBit2_A (s : State) : Result := .next (s.testBit .i2 (.reg .a))
/-- `BIT 3,B` (R261). -/
def execBit3_B (s : State) : Result := .next (s.testBit .i3 (.reg .b))
/-- `BIT 3,C` (R261). -/
def execBit3_C (s : State) : Result := .next (s.testBit .i3 (.reg .c))
/-- `BIT 3,D` (R261). -/
def execBit3_D (s : State) : Result := .next (s.testBit .i3 (.reg .d))
/-- `BIT 3,E` (R261). -/
def execBit3_E (s : State) : Result := .next (s.testBit .i3 (.reg .e))
/-- `BIT 3,H` (R261). -/
def execBit3_H (s : State) : Result := .next (s.testBit .i3 (.reg .h))
/-- `BIT 3,L` (R261). -/
def execBit3_L (s : State) : Result := .next (s.testBit .i3 (.reg .l))
/-- `BIT 3,(HL)` (R262). -/
def execBit3_atHL (s : State) : Result := .next (s.testBit .i3 .atHL)
/-- `BIT 3,A` (R261). -/
def execBit3_A (s : State) : Result := .next (s.testBit .i3 (.reg .a))
/-- `BIT 4,B` (R261). -/
def execBit4_B (s : State) : Result := .next (s.testBit .i4 (.reg .b))
/-- `BIT 4,C` (R261). -/
def execBit4_C (s : State) : Result := .next (s.testBit .i4 (.reg .c))
/-- `BIT 4,D` (R261). -/
def execBit4_D (s : State) : Result := .next (s.testBit .i4 (.reg .d))
/-- `BIT 4,E` (R261). -/
def execBit4_E (s : State) : Result := .next (s.testBit .i4 (.reg .e))
/-- `BIT 4,H` (R261). -/
def execBit4_H (s : State) : Result := .next (s.testBit .i4 (.reg .h))
/-- `BIT 4,L` (R261). -/
def execBit4_L (s : State) : Result := .next (s.testBit .i4 (.reg .l))
/-- `BIT 4,(HL)` (R262). -/
def execBit4_atHL (s : State) : Result := .next (s.testBit .i4 .atHL)
/-- `BIT 4,A` (R261). -/
def execBit4_A (s : State) : Result := .next (s.testBit .i4 (.reg .a))
/-- `BIT 5,B` (R261). -/
def execBit5_B (s : State) : Result := .next (s.testBit .i5 (.reg .b))
/-- `BIT 5,C` (R261). -/
def execBit5_C (s : State) : Result := .next (s.testBit .i5 (.reg .c))
/-- `BIT 5,D` (R261). -/
def execBit5_D (s : State) : Result := .next (s.testBit .i5 (.reg .d))
/-- `BIT 5,E` (R261). -/
def execBit5_E (s : State) : Result := .next (s.testBit .i5 (.reg .e))
/-- `BIT 5,H` (R261). -/
def execBit5_H (s : State) : Result := .next (s.testBit .i5 (.reg .h))
/-- `BIT 5,L` (R261). -/
def execBit5_L (s : State) : Result := .next (s.testBit .i5 (.reg .l))
/-- `BIT 5,(HL)` (R262). -/
def execBit5_atHL (s : State) : Result := .next (s.testBit .i5 .atHL)
/-- `BIT 5,A` (R261). -/
def execBit5_A (s : State) : Result := .next (s.testBit .i5 (.reg .a))
/-- `BIT 6,B` (R261). -/
def execBit6_B (s : State) : Result := .next (s.testBit .i6 (.reg .b))
/-- `BIT 6,C` (R261). -/
def execBit6_C (s : State) : Result := .next (s.testBit .i6 (.reg .c))
/-- `BIT 6,D` (R261). -/
def execBit6_D (s : State) : Result := .next (s.testBit .i6 (.reg .d))
/-- `BIT 6,E` (R261). -/
def execBit6_E (s : State) : Result := .next (s.testBit .i6 (.reg .e))
/-- `BIT 6,H` (R261). -/
def execBit6_H (s : State) : Result := .next (s.testBit .i6 (.reg .h))
/-- `BIT 6,L` (R261). -/
def execBit6_L (s : State) : Result := .next (s.testBit .i6 (.reg .l))
/-- `BIT 6,(HL)` (R262). -/
def execBit6_atHL (s : State) : Result := .next (s.testBit .i6 .atHL)
/-- `BIT 6,A` (R261). -/
def execBit6_A (s : State) : Result := .next (s.testBit .i6 (.reg .a))
/-- `BIT 7,B` (R261). -/
def execBit7_B (s : State) : Result := .next (s.testBit .i7 (.reg .b))
/-- `BIT 7,C` (R261). -/
def execBit7_C (s : State) : Result := .next (s.testBit .i7 (.reg .c))
/-- `BIT 7,D` (R261). -/
def execBit7_D (s : State) : Result := .next (s.testBit .i7 (.reg .d))
/-- `BIT 7,E` (R261). -/
def execBit7_E (s : State) : Result := .next (s.testBit .i7 (.reg .e))
/-- `BIT 7,H` (R261). -/
def execBit7_H (s : State) : Result := .next (s.testBit .i7 (.reg .h))
/-- `BIT 7,L` (R261). -/
def execBit7_L (s : State) : Result := .next (s.testBit .i7 (.reg .l))
/-- `BIT 7,(HL)` (R262). -/
def execBit7_atHL (s : State) : Result := .next (s.testBit .i7 .atHL)
/-- `BIT 7,A` (R261). -/
def execBit7_A (s : State) : Result := .next (s.testBit .i7 (.reg .a))
/-- `RES 0,B` (R263). -/
def execRes0_B (s : State) : Result := .next (s.resetBit .i0 (.reg .b))
/-- `RES 0,C` (R263). -/
def execRes0_C (s : State) : Result := .next (s.resetBit .i0 (.reg .c))
/-- `RES 0,D` (R263). -/
def execRes0_D (s : State) : Result := .next (s.resetBit .i0 (.reg .d))
/-- `RES 0,E` (R263). -/
def execRes0_E (s : State) : Result := .next (s.resetBit .i0 (.reg .e))
/-- `RES 0,H` (R263). -/
def execRes0_H (s : State) : Result := .next (s.resetBit .i0 (.reg .h))
/-- `RES 0,L` (R263). -/
def execRes0_L (s : State) : Result := .next (s.resetBit .i0 (.reg .l))
/-- `RES 0,(HL)` (R264). -/
def execRes0_atHL (s : State) : Result := .next (s.resetBit .i0 .atHL)
/-- `RES 0,A` (R263). -/
def execRes0_A (s : State) : Result := .next (s.resetBit .i0 (.reg .a))
/-- `RES 1,B` (R263). -/
def execRes1_B (s : State) : Result := .next (s.resetBit .i1 (.reg .b))
/-- `RES 1,C` (R263). -/
def execRes1_C (s : State) : Result := .next (s.resetBit .i1 (.reg .c))
/-- `RES 1,D` (R263). -/
def execRes1_D (s : State) : Result := .next (s.resetBit .i1 (.reg .d))
/-- `RES 1,E` (R263). -/
def execRes1_E (s : State) : Result := .next (s.resetBit .i1 (.reg .e))
/-- `RES 1,H` (R263). -/
def execRes1_H (s : State) : Result := .next (s.resetBit .i1 (.reg .h))
/-- `RES 1,L` (R263). -/
def execRes1_L (s : State) : Result := .next (s.resetBit .i1 (.reg .l))
/-- `RES 1,(HL)` (R264). -/
def execRes1_atHL (s : State) : Result := .next (s.resetBit .i1 .atHL)
/-- `RES 1,A` (R263). -/
def execRes1_A (s : State) : Result := .next (s.resetBit .i1 (.reg .a))
/-- `RES 2,B` (R263). -/
def execRes2_B (s : State) : Result := .next (s.resetBit .i2 (.reg .b))
/-- `RES 2,C` (R263). -/
def execRes2_C (s : State) : Result := .next (s.resetBit .i2 (.reg .c))
/-- `RES 2,D` (R263). -/
def execRes2_D (s : State) : Result := .next (s.resetBit .i2 (.reg .d))
/-- `RES 2,E` (R263). -/
def execRes2_E (s : State) : Result := .next (s.resetBit .i2 (.reg .e))
/-- `RES 2,H` (R263). -/
def execRes2_H (s : State) : Result := .next (s.resetBit .i2 (.reg .h))
/-- `RES 2,L` (R263). -/
def execRes2_L (s : State) : Result := .next (s.resetBit .i2 (.reg .l))
/-- `RES 2,(HL)` (R264). -/
def execRes2_atHL (s : State) : Result := .next (s.resetBit .i2 .atHL)
/-- `RES 2,A` (R263). -/
def execRes2_A (s : State) : Result := .next (s.resetBit .i2 (.reg .a))
/-- `RES 3,B` (R263). -/
def execRes3_B (s : State) : Result := .next (s.resetBit .i3 (.reg .b))
/-- `RES 3,C` (R263). -/
def execRes3_C (s : State) : Result := .next (s.resetBit .i3 (.reg .c))
/-- `RES 3,D` (R263). -/
def execRes3_D (s : State) : Result := .next (s.resetBit .i3 (.reg .d))
/-- `RES 3,E` (R263). -/
def execRes3_E (s : State) : Result := .next (s.resetBit .i3 (.reg .e))
/-- `RES 3,H` (R263). -/
def execRes3_H (s : State) : Result := .next (s.resetBit .i3 (.reg .h))
/-- `RES 3,L` (R263). -/
def execRes3_L (s : State) : Result := .next (s.resetBit .i3 (.reg .l))
/-- `RES 3,(HL)` (R264). -/
def execRes3_atHL (s : State) : Result := .next (s.resetBit .i3 .atHL)
/-- `RES 3,A` (R263). -/
def execRes3_A (s : State) : Result := .next (s.resetBit .i3 (.reg .a))
/-- `RES 4,B` (R263). -/
def execRes4_B (s : State) : Result := .next (s.resetBit .i4 (.reg .b))
/-- `RES 4,C` (R263). -/
def execRes4_C (s : State) : Result := .next (s.resetBit .i4 (.reg .c))
/-- `RES 4,D` (R263). -/
def execRes4_D (s : State) : Result := .next (s.resetBit .i4 (.reg .d))
/-- `RES 4,E` (R263). -/
def execRes4_E (s : State) : Result := .next (s.resetBit .i4 (.reg .e))
/-- `RES 4,H` (R263). -/
def execRes4_H (s : State) : Result := .next (s.resetBit .i4 (.reg .h))
/-- `RES 4,L` (R263). -/
def execRes4_L (s : State) : Result := .next (s.resetBit .i4 (.reg .l))
/-- `RES 4,(HL)` (R264). -/
def execRes4_atHL (s : State) : Result := .next (s.resetBit .i4 .atHL)
/-- `RES 4,A` (R263). -/
def execRes4_A (s : State) : Result := .next (s.resetBit .i4 (.reg .a))
/-- `RES 5,B` (R263). -/
def execRes5_B (s : State) : Result := .next (s.resetBit .i5 (.reg .b))
/-- `RES 5,C` (R263). -/
def execRes5_C (s : State) : Result := .next (s.resetBit .i5 (.reg .c))
/-- `RES 5,D` (R263). -/
def execRes5_D (s : State) : Result := .next (s.resetBit .i5 (.reg .d))
/-- `RES 5,E` (R263). -/
def execRes5_E (s : State) : Result := .next (s.resetBit .i5 (.reg .e))
/-- `RES 5,H` (R263). -/
def execRes5_H (s : State) : Result := .next (s.resetBit .i5 (.reg .h))
/-- `RES 5,L` (R263). -/
def execRes5_L (s : State) : Result := .next (s.resetBit .i5 (.reg .l))
/-- `RES 5,(HL)` (R264). -/
def execRes5_atHL (s : State) : Result := .next (s.resetBit .i5 .atHL)
/-- `RES 5,A` (R263). -/
def execRes5_A (s : State) : Result := .next (s.resetBit .i5 (.reg .a))
/-- `RES 6,B` (R263). -/
def execRes6_B (s : State) : Result := .next (s.resetBit .i6 (.reg .b))
/-- `RES 6,C` (R263). -/
def execRes6_C (s : State) : Result := .next (s.resetBit .i6 (.reg .c))
/-- `RES 6,D` (R263). -/
def execRes6_D (s : State) : Result := .next (s.resetBit .i6 (.reg .d))
/-- `RES 6,E` (R263). -/
def execRes6_E (s : State) : Result := .next (s.resetBit .i6 (.reg .e))
/-- `RES 6,H` (R263). -/
def execRes6_H (s : State) : Result := .next (s.resetBit .i6 (.reg .h))
/-- `RES 6,L` (R263). -/
def execRes6_L (s : State) : Result := .next (s.resetBit .i6 (.reg .l))
/-- `RES 6,(HL)` (R264). -/
def execRes6_atHL (s : State) : Result := .next (s.resetBit .i6 .atHL)
/-- `RES 6,A` (R263). -/
def execRes6_A (s : State) : Result := .next (s.resetBit .i6 (.reg .a))
/-- `RES 7,B` (R263). -/
def execRes7_B (s : State) : Result := .next (s.resetBit .i7 (.reg .b))
/-- `RES 7,C` (R263). -/
def execRes7_C (s : State) : Result := .next (s.resetBit .i7 (.reg .c))
/-- `RES 7,D` (R263). -/
def execRes7_D (s : State) : Result := .next (s.resetBit .i7 (.reg .d))
/-- `RES 7,E` (R263). -/
def execRes7_E (s : State) : Result := .next (s.resetBit .i7 (.reg .e))
/-- `RES 7,H` (R263). -/
def execRes7_H (s : State) : Result := .next (s.resetBit .i7 (.reg .h))
/-- `RES 7,L` (R263). -/
def execRes7_L (s : State) : Result := .next (s.resetBit .i7 (.reg .l))
/-- `RES 7,(HL)` (R264). -/
def execRes7_atHL (s : State) : Result := .next (s.resetBit .i7 .atHL)
/-- `RES 7,A` (R263). -/
def execRes7_A (s : State) : Result := .next (s.resetBit .i7 (.reg .a))
/-- `SET 0,B` (R265). -/
def execSet0_B (s : State) : Result := .next (s.raiseBit .i0 (.reg .b))
/-- `SET 0,C` (R265). -/
def execSet0_C (s : State) : Result := .next (s.raiseBit .i0 (.reg .c))
/-- `SET 0,D` (R265). -/
def execSet0_D (s : State) : Result := .next (s.raiseBit .i0 (.reg .d))
/-- `SET 0,E` (R265). -/
def execSet0_E (s : State) : Result := .next (s.raiseBit .i0 (.reg .e))
/-- `SET 0,H` (R265). -/
def execSet0_H (s : State) : Result := .next (s.raiseBit .i0 (.reg .h))
/-- `SET 0,L` (R265). -/
def execSet0_L (s : State) : Result := .next (s.raiseBit .i0 (.reg .l))
/-- `SET 0,(HL)` (R266). -/
def execSet0_atHL (s : State) : Result := .next (s.raiseBit .i0 .atHL)
/-- `SET 0,A` (R265). -/
def execSet0_A (s : State) : Result := .next (s.raiseBit .i0 (.reg .a))
/-- `SET 1,B` (R265). -/
def execSet1_B (s : State) : Result := .next (s.raiseBit .i1 (.reg .b))
/-- `SET 1,C` (R265). -/
def execSet1_C (s : State) : Result := .next (s.raiseBit .i1 (.reg .c))
/-- `SET 1,D` (R265). -/
def execSet1_D (s : State) : Result := .next (s.raiseBit .i1 (.reg .d))
/-- `SET 1,E` (R265). -/
def execSet1_E (s : State) : Result := .next (s.raiseBit .i1 (.reg .e))
/-- `SET 1,H` (R265). -/
def execSet1_H (s : State) : Result := .next (s.raiseBit .i1 (.reg .h))
/-- `SET 1,L` (R265). -/
def execSet1_L (s : State) : Result := .next (s.raiseBit .i1 (.reg .l))
/-- `SET 1,(HL)` (R266). -/
def execSet1_atHL (s : State) : Result := .next (s.raiseBit .i1 .atHL)
/-- `SET 1,A` (R265). -/
def execSet1_A (s : State) : Result := .next (s.raiseBit .i1 (.reg .a))
/-- `SET 2,B` (R265). -/
def execSet2_B (s : State) : Result := .next (s.raiseBit .i2 (.reg .b))
/-- `SET 2,C` (R265). -/
def execSet2_C (s : State) : Result := .next (s.raiseBit .i2 (.reg .c))
/-- `SET 2,D` (R265). -/
def execSet2_D (s : State) : Result := .next (s.raiseBit .i2 (.reg .d))
/-- `SET 2,E` (R265). -/
def execSet2_E (s : State) : Result := .next (s.raiseBit .i2 (.reg .e))
/-- `SET 2,H` (R265). -/
def execSet2_H (s : State) : Result := .next (s.raiseBit .i2 (.reg .h))
/-- `SET 2,L` (R265). -/
def execSet2_L (s : State) : Result := .next (s.raiseBit .i2 (.reg .l))
/-- `SET 2,(HL)` (R266). -/
def execSet2_atHL (s : State) : Result := .next (s.raiseBit .i2 .atHL)
/-- `SET 2,A` (R265). -/
def execSet2_A (s : State) : Result := .next (s.raiseBit .i2 (.reg .a))
/-- `SET 3,B` (R265). -/
def execSet3_B (s : State) : Result := .next (s.raiseBit .i3 (.reg .b))
/-- `SET 3,C` (R265). -/
def execSet3_C (s : State) : Result := .next (s.raiseBit .i3 (.reg .c))
/-- `SET 3,D` (R265). -/
def execSet3_D (s : State) : Result := .next (s.raiseBit .i3 (.reg .d))
/-- `SET 3,E` (R265). -/
def execSet3_E (s : State) : Result := .next (s.raiseBit .i3 (.reg .e))
/-- `SET 3,H` (R265). -/
def execSet3_H (s : State) : Result := .next (s.raiseBit .i3 (.reg .h))
/-- `SET 3,L` (R265). -/
def execSet3_L (s : State) : Result := .next (s.raiseBit .i3 (.reg .l))
/-- `SET 3,(HL)` (R266). -/
def execSet3_atHL (s : State) : Result := .next (s.raiseBit .i3 .atHL)
/-- `SET 3,A` (R265). -/
def execSet3_A (s : State) : Result := .next (s.raiseBit .i3 (.reg .a))
/-- `SET 4,B` (R265). -/
def execSet4_B (s : State) : Result := .next (s.raiseBit .i4 (.reg .b))
/-- `SET 4,C` (R265). -/
def execSet4_C (s : State) : Result := .next (s.raiseBit .i4 (.reg .c))
/-- `SET 4,D` (R265). -/
def execSet4_D (s : State) : Result := .next (s.raiseBit .i4 (.reg .d))
/-- `SET 4,E` (R265). -/
def execSet4_E (s : State) : Result := .next (s.raiseBit .i4 (.reg .e))
/-- `SET 4,H` (R265). -/
def execSet4_H (s : State) : Result := .next (s.raiseBit .i4 (.reg .h))
/-- `SET 4,L` (R265). -/
def execSet4_L (s : State) : Result := .next (s.raiseBit .i4 (.reg .l))
/-- `SET 4,(HL)` (R266). -/
def execSet4_atHL (s : State) : Result := .next (s.raiseBit .i4 .atHL)
/-- `SET 4,A` (R265). -/
def execSet4_A (s : State) : Result := .next (s.raiseBit .i4 (.reg .a))
/-- `SET 5,B` (R265). -/
def execSet5_B (s : State) : Result := .next (s.raiseBit .i5 (.reg .b))
/-- `SET 5,C` (R265). -/
def execSet5_C (s : State) : Result := .next (s.raiseBit .i5 (.reg .c))
/-- `SET 5,D` (R265). -/
def execSet5_D (s : State) : Result := .next (s.raiseBit .i5 (.reg .d))
/-- `SET 5,E` (R265). -/
def execSet5_E (s : State) : Result := .next (s.raiseBit .i5 (.reg .e))
/-- `SET 5,H` (R265). -/
def execSet5_H (s : State) : Result := .next (s.raiseBit .i5 (.reg .h))
/-- `SET 5,L` (R265). -/
def execSet5_L (s : State) : Result := .next (s.raiseBit .i5 (.reg .l))
/-- `SET 5,(HL)` (R266). -/
def execSet5_atHL (s : State) : Result := .next (s.raiseBit .i5 .atHL)
/-- `SET 5,A` (R265). -/
def execSet5_A (s : State) : Result := .next (s.raiseBit .i5 (.reg .a))
/-- `SET 6,B` (R265). -/
def execSet6_B (s : State) : Result := .next (s.raiseBit .i6 (.reg .b))
/-- `SET 6,C` (R265). -/
def execSet6_C (s : State) : Result := .next (s.raiseBit .i6 (.reg .c))
/-- `SET 6,D` (R265). -/
def execSet6_D (s : State) : Result := .next (s.raiseBit .i6 (.reg .d))
/-- `SET 6,E` (R265). -/
def execSet6_E (s : State) : Result := .next (s.raiseBit .i6 (.reg .e))
/-- `SET 6,H` (R265). -/
def execSet6_H (s : State) : Result := .next (s.raiseBit .i6 (.reg .h))
/-- `SET 6,L` (R265). -/
def execSet6_L (s : State) : Result := .next (s.raiseBit .i6 (.reg .l))
/-- `SET 6,(HL)` (R266). -/
def execSet6_atHL (s : State) : Result := .next (s.raiseBit .i6 .atHL)
/-- `SET 6,A` (R265). -/
def execSet6_A (s : State) : Result := .next (s.raiseBit .i6 (.reg .a))
/-- `SET 7,B` (R265). -/
def execSet7_B (s : State) : Result := .next (s.raiseBit .i7 (.reg .b))
/-- `SET 7,C` (R265). -/
def execSet7_C (s : State) : Result := .next (s.raiseBit .i7 (.reg .c))
/-- `SET 7,D` (R265). -/
def execSet7_D (s : State) : Result := .next (s.raiseBit .i7 (.reg .d))
/-- `SET 7,E` (R265). -/
def execSet7_E (s : State) : Result := .next (s.raiseBit .i7 (.reg .e))
/-- `SET 7,H` (R265). -/
def execSet7_H (s : State) : Result := .next (s.raiseBit .i7 (.reg .h))
/-- `SET 7,L` (R265). -/
def execSet7_L (s : State) : Result := .next (s.raiseBit .i7 (.reg .l))
/-- `SET 7,(HL)` (R266). -/
def execSet7_atHL (s : State) : Result := .next (s.raiseBit .i7 .atHL)
/-- `SET 7,A` (R265). -/
def execSet7_A (s : State) : Result := .next (s.raiseBit .i7 (.reg .a))
/-- `PREFIX CB` (R306). -/
def execPrefixCB (op2 : Byte) (s : State) : Result := .next (s.extended op2)

end Sys2Proof.Machine
end

