-- ==== Sys2Proof/Machine/System.lean ====
section
/-! DEFINITION. The meanings of the system instructions and of the eleven illegal opcodes (46_system). -/

namespace Sys2Proof.Machine

/-- `raise IllegalOpcode(op, at)` (R307): `PC` has not been advanced, so it is the address of the opcode. -/
def State.illegal (s : State) (op : Byte) : Result := .fault (.illegalOpcode op s.pc)

/-- `NOP` (R301). -/
def execNop (s : State) : Result := .next (s)
/-- `HALT` (R302). -/
def execHalt (s : State) : Result := .next ({ s with halted := true })
/-- `STOP` (R303). -/
def execStop (_n : Byte) (s : State) : Result := .next (s)
/-- `DI` (R304). -/
def execDi (s : State) : Result := .next ({ s with ime := false })
/-- `EI` (R305). -/
def execEi (s : State) : Result := .next ({ s with ime := true })
/-- `ILLEGAL 0xD3` (R307). -/
def execIllegal_D3 (s : State) : Result := s.illegal 0xD3
/-- `ILLEGAL 0xDB` (R307). -/
def execIllegal_DB (s : State) : Result := s.illegal 0xDB
/-- `ILLEGAL 0xDD` (R307). -/
def execIllegal_DD (s : State) : Result := s.illegal 0xDD
/-- `ILLEGAL 0xE3` (R307). -/
def execIllegal_E3 (s : State) : Result := s.illegal 0xE3
/-- `ILLEGAL 0xE4` (R307). -/
def execIllegal_E4 (s : State) : Result := s.illegal 0xE4
/-- `ILLEGAL 0xEB` (R307). -/
def execIllegal_EB (s : State) : Result := s.illegal 0xEB
/-- `ILLEGAL 0xEC` (R307). -/
def execIllegal_EC (s : State) : Result := s.illegal 0xEC
/-- `ILLEGAL 0xED` (R307). -/
def execIllegal_ED (s : State) : Result := s.illegal 0xED
/-- `ILLEGAL 0xF4` (R307). -/
def execIllegal_F4 (s : State) : Result := s.illegal 0xF4
/-- `ILLEGAL 0xFC` (R307). -/
def execIllegal_FC (s : State) : Result := s.illegal 0xFC
/-- `ILLEGAL 0xFD` (R307). -/
def execIllegal_FD (s : State) : Result := s.illegal 0xFD

end Sys2Proof.Machine
end

