-- ==== Sys2Proof/Machine/Execute.lean ====
section
/-! DEFINITION. `execute_one` around `exec` (46_system R300, R308), the end of a step (60_exceptions R320), and the
placing of an instruction where the next step fetches it. -/

namespace Sys2Proof.Machine

/-- The state in which the bytes after the opcode `op` at `PC` are read: operand bytes with `PC` advanced (R129, R300
steps 4 and 5, D35), the second byte of a 0xCB pair before that (R300 step 3). An external `wram_select` is all that could
see the difference. -/
def State.operandState (s : State) (op : Byte) : State :=
  if op = 0xCB then s else { s with pc := s.pc + BitVec.ofNat 16 (lengthOf op) }

/-- The instruction at `PC` (R300 steps 2, 3 and 5): its bytes are read as program reads at `a = PC`, `a + 1`, `a + 2`.
The bytes an instruction does not have are read as well; a read changes no state and cannot be observed (R66, log 11). -/
def State.fetch (s : State) : Instr :=
  decodeAt (s.memRead s.pc) ((s.operandState (s.memRead s.pc)).memRead (s.pc + 1))
    ((s.operandState (s.memRead s.pc)).memRead (s.pc + 2))

/-- `PC` advanced by the full length, before the operation (R300 step 4, R23). -/
def State.advancePC (s : State) (i : Instr) : State := { s with pc := s.pc + BitVec.ofNat 16 i.length }

/-- `TAKEN_EXTRA(op)` (R308). -/
def State.takenExtra (s : State) (op : Byte) : Nat := (s.params.takenExtra.lookup op).getD 0

/-- What `execute_one` reports for an instruction executed in this state (R300 step 7, R308): the base cost, and
`TAKEN_EXTRA` when it is a conditional transfer whose condition is true. -/
def State.reportedCycles (s : State) (i : Instr) : Nat :=
  i.baseCycles +
    (match i.condition with
     | some cc => if s.cond cc then s.takenExtra i.opcode else 0
     | none => 0)

/-- `execute_one()` (R300): the state after it and the cycles it reports. -/
def State.executeOne (s : State) : Host.Outcome (State × Nat) Fault Refusal :=
  if s.halted then .next (s, Config.haltCost)
  else
    match exec s.fetch (s.advancePC s.fetch) with
    | .next t => .next (t, s.reportedCycles s.fetch)
    | .fault r => .fault r
    | .refused r => .refused r

/-- S3 and S4 of R320, after an `execute_one` that reported `n`. -/
def State.endStep (s : State) (n : Nat) : State := (s.tickTimer n).peripherals n

/-! ### Placing code (log 10) -/

/-- An address where a byte stored beforehand is the byte a fetch reads, and where storing it requests no interrupt. -/
def State.codeAddress (s : State) (a : Word) : Bool :=
  s.valid a && decide (a ≠ Config.JOYP) && decide (a ≠ Config.IE) && decide (a ≠ Config.IF)

/-- The three addresses from which the next instruction is fetched can hold code. -/
def State.codeFits (s : State) : Bool :=
  s.codeAddress s.pc && s.codeAddress (s.pc + 1) && s.codeAddress (s.pc + 2)

/-- Running, with `PC` at an address that can hold code: the state itself wherever that is so already. -/
def State.readyToFetch (s : State) : State :=
  let s := if s.checkInterrupt.halted then { s with halted := false } else s
  if s.checkInterrupt.codeFits then s else { s with pc := 0xC000 }

/-- A byte put in the cell that `a` resolves to in `t`. -/
def State.placeByte (t s : State) (a : Word) (v : Byte) : State :=
  match t.resolve a with
  | some x => s.setCell x v
  | none => s

/-- The bytes put where the next step fetches: at the `PC` that its `check_interrupt` leaves. -/
def State.placeCode (s : State) (bytes : List Byte) : State :=
  let s := s.readyToFetch
  let t := s.checkInterrupt
  let u := t.operandState (bytes.getD 0 0)
  State.placeByte u (State.placeByte u (State.placeByte t s t.pc (bytes.getD 0 0)) (t.pc + 1) (bytes.getD 1 0))
    (t.pc + 2) (bytes.getD 2 0)

end Sys2Proof.Machine
end

