-- ==== Sys2Proof/Machine/Step.lean ====
section
/-! DEFINITION. One step of the machine (60_exceptions R320), and a table word placed where the next step fetches it. -/

namespace Sys2Proof.Machine

/-- S1 `check_interrupt`, S2 `execute_one`, S3 `tick_timer(n)`, S4 the peripherals (R320). A fault keeps no state
change of the step (R15, R307). -/
def step (s : State) : Host.Outcome State Fault Refusal :=
  match s.checkInterrupt.executeOne with
  | .next (t, n) => .next (t.endStep n)
  | .fault r => .fault r
  | .refused r => .refused r

/-- The state with the instruction of a table word stored where `step` fetches its next instruction (log 10). -/
def State.withFetchWord (s : State) (nbits w : Nat) : State := s.placeCode (tableBytes nbits w)

end Sys2Proof.Machine
end

