-- ==== Sys2Proof/Machine/Launch.lean ====
section
/-! DEFINITION. The launch states (70_reset_and_hazards section 1): reset with what the cartridge loader supplies, and
the boot-skip state. -/

namespace Sys2Proof.Machine

/-- What the loader hands over before the first step (R371), and the contents the spec leaves to the launch (R59). -/
structure Cartridge where
  image  : List Byte
  /-- The unspecified byte a short image is padded with (R371, U6). -/
  pad    : Byte
  /-- `BOOT_IMAGE`; `BOOT_SIZE` is a parameter. -/
  boot   : List Byte
  /-- The saved external RAM: `ERAM[0]`, then `ERAM[1]`, and so on (R70, R371). -/
  saved  : List Byte
  /-- The other cells whose contents at reset the spec leaves open, with their bytes (R59). -/
  ram    : List (Loc × Byte)
  params : Config.Params
  deriving DecidableEq, Repr

/-- The bank scalars at reset: the controller's defaults (R35, R92, R93). -/
def resetBanks : Config.Controller → Config.BankState
  | .noController => { romBank := 1, ramBank := 0, ramEnable := true, mode := false }
  | .external id => Config.resetBanks id

/-- Byte `i` of the image, padded. -/
def Cartridge.imageByte (c : Cartridge) (i : Nat) : Byte := c.image.getD i c.pad

/-- `n` cells of a bank filled from offset `i` on. -/
def State.fill (s : State) (buf : Buffer) (bank : Nat) (src : Nat → Byte) (i : Nat) : Nat → State
  | 0 => s
  | n + 1 => State.fill (s.setCell ⟨buf, bank, i⟩ (src i)) buf bank src (i + 1) n

/-- `ROMX[b] <- image[b*0x4000 ..]` for every bank below `n` (R371). -/
def State.fillRomx (s : State) (c : Cartridge) : Nat → State
  | 0 => s
  | n + 1 => (s.fillRomx c n).fill .romx n (fun i => c.imageByte (n * 0x4000 + i)) 0 0x4000

/-- `ERAM[b] <- saved[b*0x2000 ..]` for every bank below `n`; where nothing was saved the cell is left to `ram`. -/
def State.fillEram (s : State) (c : Cartridge) : Nat → State
  | 0 => s
  | n + 1 =>
    (s.fillEram c n).fill .eram n (fun i => c.saved.getD (n * 0x2000 + i) 0) 0 (min 0x2000 (c.saved.length - n * 0x2000))

/-- The launch state (R370, R371). -/
def State.launch (c : Cartridge) : State :=
  let s : State :=
    { State.reset with
      params := c.params, banks := resetBanks c.params.controller, bootDone := decide (c.params.bootSize = 0) }
  let s := c.ram.foldl (fun s x => s.setCell x.1 x.2) s
  let s := s.fill .rom0 0 c.imageByte 0 0x4000
  let s := s.fillRomx c c.params.romBanks
  let s := s.fill .bootrom 0 (fun i => c.boot.getD i 0) 0 c.params.bootSize
  s.fillEram c c.params.eramBanks

/-- The register values of the boot-skip launch state, parameters of a claim that uses it (R373). -/
structure BootSkip where
  pc : Word
  sp : Word
  af : Word
  bc : Word
  de : Word
  hl : Word
  boot : Byte
  deriving DecidableEq, Repr

/-- The values R373 lists. -/
def BootSkip.default : BootSkip :=
  { pc := 0x0100, sp := 0xFFFE, af := 0x01B0, bc := 0x0013, de := 0x00D8, hl := 0x014D, boot := 0x01 }

/-- The boot-skip launch state (R373): a launch state as the boot program would leave it. -/
def State.bootSkip (s : State) (v : BootSkip) : State :=
  { s.setCell ⟨.io, 0, 0x50⟩ v.boot with
    bootDone := true, pc := v.pc, sp := v.sp, a := hiByte v.af, f := loByte v.af &&& 0xF0
    b := hiByte v.bc, c := loByte v.bc, d := hiByte v.de, e := loByte v.de, h := hiByte v.hl, l := loByte v.hl
    ime := false, halted := false, inService := false, divAcc := 0, timaAcc := 0 }

end Sys2Proof.Machine
end

