-- ==== Sys2Proof/Safety.lean ====
section
/-! DEFINITION. What the claims call a good state and a good run: the invariant of the machine, and the observations of
a run that the spec names (70_reset_and_hazards R396, R382). -/

namespace Sys2Proof.Safety

open Sys2Proof.Machine

/-- The low nibble of `F` is zero (R24). -/
def flagsClean (s : State) : Bool := s.f &&& 0x0F == 0

/-- The accumulators are in the ranges they have between calls of `tick_timer` (R30, R31). -/
def accumulatorsBounded (s : State) : Bool := decide (s.divAcc ≤ 255) && decide (s.timaAcc ≤ 1023)

/-- The parameters a launch may supply (R371: `ROM_BANKS >= 2`; R73: `BOOT_SIZE` at most 0x4000). -/
def paramsLegal (s : State) : Bool := decide (2 ≤ s.params.romBanks) && decide (s.params.bootSize ≤ 0x4000)

/-- The invariant of the machine: storage in canonical form, and the three facts above. -/
def Inv (s : State) : Prop :=
  s.mem.wf = true ∧ flagsClean s = true ∧ accumulatorsBounded s = true ∧ paramsLegal s = true

/-- Source `i` is pending: its bit is 1 in `IE` and in `IF` (R332). -/
def pending (s : State) (i : Source) : Bool :=
  (s.read8 Config.IE false).getLsbD i.index && (s.read8 Config.IF false).getLsbD i.index

/-- No source is pending: enabled and requested (R332). -/
def nothingPending (s : State) : Bool := Source.all.all fun i => !pending s i

/-- A step of the running machine takes no interrupt and does not wake: `check_interrupt` will do nothing. -/
def quiet (s : State) : Bool := s.inService || nothingPending s

/-- Observation (b) of R396, by convention of a program: the state is parked in halt. -/
def parkedInHalt (s : State) : Bool := s.halted

/-- A hang (R382): halted inside a handler. -/
def hung (s : State) : Bool := s.halted && s.inService

/-- Observation (a) of R396: the state after exactly `k` steps, and the sum of the cycles they reported. -/
def boundedRun (k : Nat) (s : State) : Host.Outcome (State × Nat) Fault Refusal :=
  match k with
  | 0 => .next (s, 0)
  | k + 1 =>
    match step s with
    | .next t =>
      match boundedRun k t with
      | .next (u, n) => .next (u, t.lastCycles + n)
      | .fault r => .fault r
      | .refused r => .refused r
    | .fault r => .fault r
    | .refused r => .refused r

/-- Observation (a) of R396, by cycles: the state after the first step at which the reported cycles reach `bound`, and
their sum, within `fuel` steps. Every step reports at least 4 cycles, so `bound` steps are enough. -/
def boundedCycles (fuel bound : Nat) (s : State) : Host.Outcome (State × Nat) Fault Refusal :=
  match fuel with
  | 0 => .next (s, 0)
  | fuel + 1 =>
    match step s with
    | .next t =>
      if bound ≤ t.lastCycles then .next (t, t.lastCycles)
      else
        match boundedCycles fuel (bound - t.lastCycles) t with
        | .next (u, n) => .next (u, t.lastCycles + n)
        | .fault r => .fault r
        | .refused r => .refused r
    | .fault r => .fault r
    | .refused r => .refused r

/-- Observation (c) of R396: `PC` is at a `JR` with `e = 0xFE`, with no interrupt serviceable. -/
def inSelfLoop (s : State) : Bool := !s.halted && decide (s.fetch = .jr 0xFE) && (quiet s || !s.ime)

/-- A run is safe for `k` steps: no step faults. -/
def safeFor (k : Nat) (s : State) : Bool :=
  match boundedRun k s with
  | .next _ => true
  | .fault _ => false
  | .refused _ => false

/-! ### The words of the claims -/

/-- The four flags of a state, and the low nibble of `F` zero (R16). -/
def flagsAre (t : State) (z n h c : Bool) : Prop :=
  t.zFlag = z ∧ t.nFlag = n ∧ t.hFlag = h ∧ t.cFlag = c ∧ t.f &&& 0x0F = 0

/-- Nothing differs but bytes of storage and what a write can change beside them: the bank scalars and the boot latch
(R74). -/
def sameOutsideStorage (s t : State) : Prop :=
  { t with mem := s.mem, banks := s.banks, bootDone := s.bootDone } = s

/-- The cells of `t` are those of `s`, but for the cell that a write of `v` to `a` in the state `u` stores to, and, if
`a` is the DMA register, the sprite table (R74, R76); a rejected write changes no cell (R65). Offsets are below 0x4000,
the size of the largest buffer (R32). -/
def onlyStoreChanges (u s t : State) (a : Word) (v : Byte) : Prop :=
  ∀ x : Loc, x.off < 0x4000 →
    (u.valid a = true → (u.beforeStore a v).resolve a ≠ some x ∧
      (a = Config.DMA → ¬ ∃ i, i < 160 ∧ x = ⟨.oam, 0, i⟩)) →
    t.cell x = s.cell x

/-- An address whose byte a program stores and reads back unchanged: valid, and none of the addresses of R87. -/
def plainStorage (s : State) (a : Word) : Prop :=
  s.valid a = true ∧ a ≠ Config.JOYP ∧ a ≠ Config.DIV ∧ a ≠ Config.LY ∧ a ≠ Config.DMA ∧ a ≠ Config.BOOT

/-- The map of the address space stands still: no bank controller (R93), and a constant second work-RAM bank (R36). -/
def fixedMap (s : State) : Prop :=
  s.params.controller = .noController ∧ ∃ b, s.params.wramSelect = .fixed b

/-- The operand forms of an ALU operation (42_alu8 section 2): a register or `(HL)`, or an immediate. -/
inductive AluForm where
  | operand (o : Operand8)
  | immediate (n : Byte)
  deriving DecidableEq, Repr

def AluForm.instr (op : AluOp) : AluForm → Instr
  | .operand o => .alu op o
  | .immediate n => .aluImm n op

/-- The value of the operand, read in the state before the instruction. -/
def AluForm.value (s : State) : AluForm → Byte
  | .operand (.reg r) => s.reg r
  | .operand .atHL => s.read8 s.hl true
  | .immediate n => n

/-- The registers other than `F` aside, nothing differs. -/
def sameOutsideRegisters (s t : State) : Prop :=
  { t with a := s.a, b := s.b, c := s.c, d := s.d, e := s.e, h := s.h, l := s.l } = s

/-- `t` is `s` with `v` in one register, and nothing else changed. -/
def writesRegister (s t : State) (r : Reg8) (v : Byte) : Prop :=
  t.reg r = v ∧ (∀ q, q ≠ r → t.reg q = s.reg q) ∧ sameOutsideRegisters s t

/-- `t` is `s` with `v` in one pair or in `SP`, and nothing else changed. -/
def writesPair (s t : State) (p : Pair) (v : Word) : Prop :=
  t.pair p = v ∧ (∀ q, q ≠ p → t.pair q = s.pair q) ∧ t.a = s.a ∧ sameOutsideRegisters { s with sp := t.sp } t

/-- The row of an instruction: its bytes, which decode to it, their number, and its base cost (R17, R134). -/
def described (i : Instr) (bytes : List Byte) (cycles : Nat) : Prop :=
  encode i = bytes ∧ decode bytes = .ok (i, []) ∧ i.length = bytes.length ∧ i.baseCycles = cycles

/-! The numbers of the operand fields (R123 to R128), as the encodings place them. -/

def regCode : Reg8 → Nat
  | .b => 0 | .c => 1 | .d => 2 | .e => 3 | .h => 4 | .l => 5 | .a => 7

def operandCode : Operand8 → Nat
  | .reg r => regCode r
  | .atHL => 6

def pairCode : Pair → Nat
  | .bc => 0 | .de => 1 | .hl => 2 | .sp => 3

def stackPairCode : StackPair → Nat
  | .bc => 0 | .de => 1 | .hl => 2 | .af => 3

def condCode : Cond → Nat
  | .nz => 0 | .z => 1 | .nc => 2 | .c => 3

def aluCode : AluOp → Nat
  | .add => 0 | .adc => 1 | .sub => 2 | .sbc => 3 | .and => 4 | .xor => 5 | .or => 6 | .cp => 7

def rotCode : RotOp → Nat
  | .rlc => 0 | .rrc => 1 | .rl => 2 | .rr => 3 | .sla => 4 | .sra => 5 | .swap => 6 | .srl => 7

/-- An opcode byte. -/
def op8 (n : Nat) : Byte := BitVec.ofNat 8 n

/-- The bytes and the cost of an ALU form (42_alu8 section 2). -/
def AluForm.bytes (op : AluOp) : AluForm → List Byte
  | .operand o => [op8 (0x80 + 8 * aluCode op + operandCode o)]
  | .immediate n => [op8 (0xC6 + 8 * aluCode op), n]

def AluForm.cycles : AluForm → Nat
  | .operand (.reg _) => 4
  | .operand .atHL => 8
  | .immediate _ => 8

/-- The table of R244, bit by bit: bit `i` of `res`, and `cout`. -/
def shiftedBit (op : RotOp) (v : Byte) (cy : Bool) (i : Nat) : Bool :=
  match op with
  | .rlc => if i = 0 then v.getLsbD 7 else v.getLsbD (i - 1)
  | .rrc => if i = 7 then v.getLsbD 0 else v.getLsbD (i + 1)
  | .rl => if i = 0 then cy else v.getLsbD (i - 1)
  | .rr => if i = 7 then cy else v.getLsbD (i + 1)
  | .sla => if i = 0 then false else v.getLsbD (i - 1)
  | .sra => if i = 7 then v.getLsbD 7 else v.getLsbD (i + 1)
  | .swap => v.getLsbD ((i + 4) % 8)
  | .srl => if i = 7 then false else v.getLsbD (i + 1)

def shiftedOut (op : RotOp) (v : Byte) : Bool :=
  match op with
  | .rlc | .rl | .sla => v.getLsbD 7
  | .rrc | .rr | .sra | .srl => v.getLsbD 0
  | .swap => false

/-- `res` and `cout` are what R244 gives for `v` and the carry in. -/
def isShift (op : RotOp) (v : Byte) (cy : Bool) (res : Byte) (cout : Bool) : Prop :=
  (∀ i, i < 8 → res.getLsbD i = shiftedBit op v cy i) ∧ cout = shiftedOut op v

/-- The value of `DIV` and `div_acc` together, in cycles. -/
def dividerCycles (s : State) : Nat := (s.read8 Config.DIV false).toNat * 256 + s.divAcc

end Sys2Proof.Safety
end

