-- ==== Sys2Proof/Certificates/Slice0/Obligations.lean ====
section
/-! DEFINITION. The claims about the machine, from the numbered rules of spec/. Each `exec … = .next …` says both that
the instruction completes and what it leaves; an equation between states with the written fields put back is the frame. -/

open Sys2Proof Sys2Proof.Machine Sys2Proof.Safety

/-! ### 8-bit loads (40_load8) -/

/-- R150, R151, R152: one register is written, nothing else changes. -/
def Obligations.LoadsIntoARegisterWriteOnlyIt : Prop :=
  (∀ dst r s, described (.ld (.reg dst) (.reg r)) [op8 (0x40 + 8 * regCode dst + regCode r)] 4 ∧
    ∃ t, exec (.ld (.reg dst) (.reg r)) s = .next t ∧ writesRegister s t dst (s.reg r)) ∧
  (∀ dst n s, described (.ldImm n (.reg dst)) [op8 (0x06 + 8 * regCode dst), n] 8 ∧
    ∃ t, exec (.ldImm n (.reg dst)) s = .next t ∧ writesRegister s t dst n) ∧
  (∀ dst s, described (.ld (.reg dst) .atHL) [op8 (0x46 + 8 * regCode dst)] 8 ∧
    ∃ t, exec (.ld (.reg dst) .atHL) s = .next t ∧ writesRegister s t dst (s.read8 s.hl true))

/-- R153, R154: one program write at `HL`. -/
def Obligations.StoresAtHLWriteTheByteAtHL : Prop :=
  (∀ r s, described (.ld .atHL (.reg r)) [op8 (0x70 + regCode r)] 8 ∧
    exec (.ld .atHL (.reg r)) s = .next (s.write8 s.hl (s.reg r) true)) ∧
  (∀ n s, described (.ldImm n .atHL) [0x36, n] 12 ∧
    exec (.ldImm n .atHL) s = .next (s.write8 s.hl n true))

/-- R155, R156, R167, R168: `A` takes the byte at the pair; the last two forms then move `HL` by one. -/
def Obligations.IndirectLoadsOfA : Prop :=
  (∀ s, described (.loadA .bc) [0x0A] 8 ∧
    ∃ t, exec (.loadA .bc) s = .next t ∧ writesRegister s t .a (s.read8 s.bc true)) ∧
  (∀ s, described (.loadA .de) [0x1A] 8 ∧
    ∃ t, exec (.loadA .de) s = .next t ∧ writesRegister s t .a (s.read8 s.de true)) ∧
  (∀ s, described (.loadA .hlInc) [0x2A] 8 ∧
    ∃ t, exec (.loadA .hlInc) s = .next t ∧ t.a = s.read8 s.hl true ∧ t.hl = s.hl + 1 ∧
      { t with a := s.a, h := s.h, l := s.l } = s) ∧
  (∀ s, described (.loadA .hlDec) [0x3A] 8 ∧
    ∃ t, exec (.loadA .hlDec) s = .next t ∧ t.a = s.read8 s.hl true ∧ t.hl = s.hl - 1 ∧
      { t with a := s.a, h := s.h, l := s.l } = s)

/-- R157, R158, R165, R166: `A` is stored at the pair; the last two forms then move `HL` by one. -/
def Obligations.IndirectStoresOfA : Prop :=
  (∀ s, described (.storeA .bc) [0x02] 8 ∧ exec (.storeA .bc) s = .next (s.write8 s.bc s.a true)) ∧
  (∀ s, described (.storeA .de) [0x12] 8 ∧ exec (.storeA .de) s = .next (s.write8 s.de s.a true)) ∧
  (∀ s, described (.storeA .hlInc) [0x22] 8 ∧
    ∃ t, exec (.storeA .hlInc) s = .next t ∧ t.hl = s.hl + 1 ∧
      { t with h := s.h, l := s.l } = s.write8 s.hl s.a true) ∧
  (∀ s, described (.storeA .hlDec) [0x32] 8 ∧
    ∃ t, exec (.storeA .hlDec) s = .next t ∧ t.hl = s.hl - 1 ∧
      { t with h := s.h, l := s.l } = s.write8 s.hl s.a true)

/-- R159 to R164: the absolute and the high-page forms; the address of the latter is 0xFF00 plus the byte. -/
def Obligations.AbsoluteAndHighPageAccess : Prop :=
  (∀ nn s, described (.ld_A_atNN nn) [0xFA, nn.extractLsb' 0 8, nn.extractLsb' 8 8] 16 ∧
    ∃ t, exec (.ld_A_atNN nn) s = .next t ∧ writesRegister s t .a (s.read8 nn true)) ∧
  (∀ nn s, described (.ld_atNN_A nn) [0xEA, nn.extractLsb' 0 8, nn.extractLsb' 8 8] 16 ∧
    exec (.ld_atNN_A nn) s = .next (s.write8 nn s.a true)) ∧
  (∀ n s, described (.ldh_A_atN n) [0xF0, n] 12 ∧
    ∃ t, exec (.ldh_A_atN n) s = .next t ∧
      writesRegister s t .a (s.read8 (BitVec.ofNat 16 (0xFF00 + n.toNat)) true)) ∧
  (∀ n s, described (.ldh_atN_A n) [0xE0, n] 12 ∧
    exec (.ldh_atN_A n) s = .next (s.write8 (BitVec.ofNat 16 (0xFF00 + n.toNat)) s.a true)) ∧
  (∀ s, described .ldh_A_atC [0xF2] 8 ∧
    ∃ t, exec .ldh_A_atC s = .next t ∧
      writesRegister s t .a (s.read8 (BitVec.ofNat 16 (0xFF00 + s.c.toNat)) true)) ∧
  (∀ s, described .ldh_atC_A [0xE2] 8 ∧
    exec .ldh_atC_A s = .next (s.write8 (BitVec.ofNat 16 (0xFF00 + s.c.toNat)) s.a true))

/-! ### 16-bit loads and the stack (41_load16_stack) -/

/-- R180, R182: a pair, or `SP`, takes the value, nothing else changes. -/
def Obligations.PairLoadsWriteOnlyThePair : Prop :=
  (∀ nn p s, described (.ldPair nn p) [op8 (0x01 + 16 * pairCode p), nn.extractLsb' 0 8, nn.extractLsb' 8 8] 12 ∧
    ∃ t, exec (.ldPair nn p) s = .next t ∧ writesPair s t p nn) ∧
  (∀ s, described .ld_SP_HL [0xF9] 8 ∧ exec .ld_SP_HL s = .next { s with sp := s.hl })

/-- R181: the low byte of `SP` at `nn` first, then the high byte at `nn + 1`. -/
def Obligations.StoreOfSPWritesLowByteFirst : Prop :=
  ∀ nn s, described (.ld_atNN_SP nn) [0x08, nn.extractLsb' 0 8, nn.extractLsb' 8 8] 20 ∧
    exec (.ld_atNN_SP nn) s =
      .next ((s.write8 nn (s.sp.extractLsb' 0 8) true).write8 (nn + 1) (s.sp.extractLsb' 8 8) true)

/-- R183: `HL <- SP + e`, the carries from the unsigned low bytes, Z and N cleared. -/
def Obligations.LoadHLFromSPPlusDisplacement : Prop :=
  ∀ e s, described (.ld_HL_SPe e) [0xF8, e] 12 ∧
    ∃ t, exec (.ld_HL_SPe e) s = .next t ∧
      (t.hl.toNat : Int) = ((s.sp.toNat : Int) + e.toInt) % 65536 ∧
      flagsAre t false false (decide (s.sp.toNat % 16 + e.toNat % 16 > 0xF)) (decide (s.sp.toNat % 256 + e.toNat > 0xFF)) ∧
      { t with h := s.h, l := s.l, f := s.f } = s

/-- R184, R96: two program writes, the high byte at `SP - 1`, then the low byte at `SP - 2`. -/
def Obligations.PushWritesHighByteThenLowByte : Prop :=
  ∀ p s, described (.push p) [op8 (0xC5 + 16 * stackPairCode p)] 16 ∧
    ∃ t, exec (.push p) s = .next t ∧ t.sp = s.sp - 2 ∧
      t = ({ ({ s with sp := s.sp - 1 }.write8 (s.sp - 1) ((s.stackPair p).extractLsb' 8 8) true) with
            sp := s.sp - 2 }).write8 (s.sp - 2) ((s.stackPair p).extractLsb' 0 8) true

/-- R185, R186: low byte from `SP`, high byte from `SP + 1`, `SP` up by two, the pair written; into `F` without its low
four bits. -/
def Obligations.PopReadsLowByteThenHighByte : Prop :=
  (∀ p s, p ≠ .af → described (.pop p) [op8 (0xC1 + 16 * stackPairCode p)] 12 ∧
    ∃ t, exec (.pop p) s = .next t ∧ t.sp = s.sp + 2 ∧
      t.stackPair p = ({ s with sp := s.sp + 1 }.read8 (s.sp + 1) true) ++ (s.read8 s.sp true) ∧
      (∀ q, q ≠ p → t.stackPair q = s.stackPair q) ∧ { t with sp := s.sp, b := s.b, c := s.c, d := s.d, e := s.e, h := s.h, l := s.l } = s) ∧
  (∀ s, described (.pop .af) [0xF1] 12 ∧
    ∃ t, exec (.pop .af) s = .next t ∧ t.sp = s.sp + 2 ∧ t.a = { s with sp := s.sp + 1 }.read8 (s.sp + 1) true ∧
      t.f = (s.read8 s.sp true) &&& 0xF0 ∧ { t with sp := s.sp, a := s.a, f := s.f } = s)

/-- R97: a push followed by a pop gives the value back wherever the two stack bytes are plain storage. -/
def Obligations.PushThenPopGivesTheValueBack : Prop :=
  ∀ s (v : Word), fixedMap s → plainStorage s (s.sp - 1) → plainStorage s (s.sp - 2) →
    (s.push16 v).popValue = v ∧ (s.push16 v).popped.sp = s.sp

/-! ### 8-bit arithmetic and logic (42_alu8) -/

/-- R190, R192 to R197: `ADD` and `ADC` in their three operand forms. -/
def Obligations.AddAndAddWithCarry : Prop :=
  ∀ (x : AluForm) (s : State),
    (described (x.instr .add) (x.bytes .add) x.cycles ∧
      ∃ t, exec (x.instr .add) s = .next t ∧ t.a.toNat = (s.a.toNat + (x.value s).toNat) % 256 ∧
        flagsAre t (decide (t.a = 0)) false (decide (s.a.toNat % 16 + (x.value s).toNat % 16 > 0xF))
          (decide (s.a.toNat + (x.value s).toNat > 0xFF)) ∧ { t with a := s.a, f := s.f } = s) ∧
    (described (x.instr .adc) (x.bytes .adc) x.cycles ∧
      ∃ t, exec (x.instr .adc) s = .next t ∧ t.a.toNat = (s.a.toNat + (x.value s).toNat + s.cFlag.toNat) % 256 ∧
        flagsAre t (decide (t.a = 0)) false
          (decide (s.a.toNat % 16 + (x.value s).toNat % 16 + s.cFlag.toNat > 0xF))
          (decide (s.a.toNat + (x.value s).toNat + s.cFlag.toNat > 0xFF)) ∧ { t with a := s.a, f := s.f } = s)

/-- R191, R198 to R203, R213 to R215: `SUB`, `SBC` and `CP`; `H` and `C` are borrows, and `CP` leaves `A`. -/
def Obligations.SubtractAndCompare : Prop :=
  ∀ (x : AluForm) (s : State),
    (described (x.instr .sub) (x.bytes .sub) x.cycles ∧
      ∃ t, exec (x.instr .sub) s = .next t ∧ (t.a.toNat : Int) = ((s.a.toNat : Int) - (x.value s).toNat) % 256 ∧
        flagsAre t (decide (t.a = 0)) true (decide (s.a.toNat % 16 < (x.value s).toNat % 16))
          (decide (s.a.toNat < (x.value s).toNat)) ∧ { t with a := s.a, f := s.f } = s) ∧
    (described (x.instr .sbc) (x.bytes .sbc) x.cycles ∧
      ∃ t, exec (x.instr .sbc) s = .next t ∧
        (t.a.toNat : Int) = ((s.a.toNat : Int) - (x.value s).toNat - s.cFlag.toNat) % 256 ∧
        flagsAre t (decide (t.a = 0)) true (decide (s.a.toNat % 16 < (x.value s).toNat % 16 + s.cFlag.toNat))
          (decide (s.a.toNat < (x.value s).toNat + s.cFlag.toNat)) ∧ { t with a := s.a, f := s.f } = s) ∧
    (described (x.instr .cp) (x.bytes .cp) x.cycles ∧
      ∃ t, exec (x.instr .cp) s = .next t ∧
        flagsAre t (decide (s.a = x.value s)) true (decide (s.a.toNat % 16 < (x.value s).toNat % 16))
          (decide (s.a.toNat < (x.value s).toNat)) ∧ { t with f := s.f } = s)

/-- R204 to R212: `AND`, `XOR`, `OR`, bit by bit. -/
def Obligations.AndXorOr : Prop :=
  ∀ (x : AluForm) (s : State),
    (described (x.instr .and) (x.bytes .and) x.cycles ∧
      ∃ t, exec (x.instr .and) s = .next t ∧
        (∀ i, t.a.getLsbD i = (s.a.getLsbD i && (x.value s).getLsbD i)) ∧
        flagsAre t (decide (t.a = 0)) false true false ∧ { t with a := s.a, f := s.f } = s) ∧
    (described (x.instr .xor) (x.bytes .xor) x.cycles ∧
      ∃ t, exec (x.instr .xor) s = .next t ∧
        (∀ i, t.a.getLsbD i = (s.a.getLsbD i ^^ (x.value s).getLsbD i)) ∧
        flagsAre t (decide (t.a = 0)) false false false ∧ { t with a := s.a, f := s.f } = s) ∧
    (described (x.instr .or) (x.bytes .or) x.cycles ∧
      ∃ t, exec (x.instr .or) s = .next t ∧
        (∀ i, t.a.getLsbD i = (s.a.getLsbD i || (x.value s).getLsbD i)) ∧
        flagsAre t (decide (t.a = 0)) false false false ∧ { t with a := s.a, f := s.f } = s)

/-- R216, R218: `INC r`, `DEC r`; the carry flag is kept. -/
def Obligations.IncrementAndDecrementRegister : Prop :=
  ∀ (r : Reg8) (s : State),
    (described (.inc (.reg r)) [op8 (0x04 + 8 * regCode r)] 4 ∧
      ∃ t, exec (.inc (.reg r)) s = .next t ∧ writesRegister s { t with f := s.f } r (s.reg r + 1) ∧
        flagsAre t (decide (t.reg r = 0)) false (decide ((s.reg r).toNat % 16 = 0xF)) s.cFlag) ∧
    (described (.dec (.reg r)) [op8 (0x05 + 8 * regCode r)] 4 ∧
      ∃ t, exec (.dec (.reg r)) s = .next t ∧ writesRegister s { t with f := s.f } r (s.reg r - 1) ∧
        flagsAre t (decide (t.reg r = 0)) true (decide ((s.reg r).toNat % 16 = 0)) s.cFlag)

/-- R217, R219: `INC (HL)`, `DEC (HL)`: the write obeys R74, the flags come from the byte read. -/
def Obligations.IncrementAndDecrementMemory : Prop :=
  ∀ (s : State),
    (described (.inc .atHL) [0x34] 12 ∧
      ∃ t, exec (.inc .atHL) s = .next t ∧ { t with f := s.f } = s.write8 s.hl (s.read8 s.hl true + 1) true ∧
        flagsAre t (decide (s.read8 s.hl true + 1 = 0)) false (decide ((s.read8 s.hl true).toNat % 16 = 0xF)) s.cFlag) ∧
    (described (.dec .atHL) [0x35] 12 ∧
      ∃ t, exec (.dec .atHL) s = .next t ∧ { t with f := s.f } = s.write8 s.hl (s.read8 s.hl true - 1) true ∧
        flagsAre t (decide (s.read8 s.hl true - 1 = 0)) true (decide ((s.read8 s.hl true).toNat % 16 = 0)) s.cFlag)

/-- R220: `DAA`, with the integer it adds to or takes from `A`. -/
def Obligations.DecimalAdjust : Prop :=
  ∀ s : State, described .daa [0x27] 4 ∧
    ∃ t, exec .daa s = .next t ∧
      (s.nFlag = false →
        t.a.toNat = (s.a.toNat + (if s.cFlag = true ∨ s.a.toNat > 0x99 then 0x60 else 0)
          + (if s.hFlag = true ∨ s.a.toNat % 16 > 9 then 0x06 else 0)) % 256 ∧
        flagsAre t (decide (t.a = 0)) false false (decide (s.cFlag = true ∨ s.a.toNat > 0x99))) ∧
      (s.nFlag = true →
        (t.a.toNat : Int) = ((s.a.toNat : Int) - (if s.cFlag then 0x60 else 0) - (if s.hFlag then 0x06 else 0)) % 256 ∧
        flagsAre t (decide (t.a = 0)) true false s.cFlag) ∧
      { t with a := s.a, f := s.f } = s

/-- R221, R222, R223: `CPL`, `SCF`, `CCF`. -/
def Obligations.ComplementAndCarryFlagInstructions : Prop :=
  ∀ s : State,
    (described .cpl [0x2F] 4 ∧ ∃ t, exec .cpl s = .next t ∧ t.a.toNat = 255 - s.a.toNat ∧
      flagsAre t s.zFlag true true s.cFlag ∧ { t with a := s.a, f := s.f } = s) ∧
    (described .scf [0x37] 4 ∧ ∃ t, exec .scf s = .next t ∧
      flagsAre t s.zFlag false false true ∧ { t with f := s.f } = s) ∧
    (described .ccf [0x3F] 4 ∧ ∃ t, exec .ccf s = .next t ∧
      flagsAre t s.zFlag false false (!s.cFlag) ∧ { t with f := s.f } = s)

/-! ### 16-bit arithmetic (43_alu16) -/

/-- R230: Z is kept; `H` is the carry from bit 11, `C` that from bit 15. -/
def Obligations.AddPairToHL : Prop :=
  ∀ (p : Pair) (s : State), described (.addHL p) [op8 (0x09 + 16 * pairCode p)] 8 ∧
    ∃ t, exec (.addHL p) s = .next t ∧ t.hl.toNat = (s.hl.toNat + (s.pair p).toNat) % 65536 ∧
      flagsAre t s.zFlag false (decide (s.hl.toNat % 4096 + (s.pair p).toNat % 4096 > 0xFFF))
        (decide (s.hl.toNat + (s.pair p).toNat > 0xFFFF)) ∧ { t with h := s.h, l := s.l, f := s.f } = s

/-- R231, R232: a pair or `SP` up or down by one, no flag changed. -/
def Obligations.IncrementAndDecrementPair : Prop :=
  ∀ (p : Pair) (s : State),
    (described (.incPair p) [op8 (0x03 + 16 * pairCode p)] 8 ∧
      ∃ t, exec (.incPair p) s = .next t ∧ writesPair s t p (s.pair p + 1)) ∧
    (described (.decPair p) [op8 (0x0B + 16 * pairCode p)] 8 ∧
      ∃ t, exec (.decPair p) s = .next t ∧ writesPair s t p (s.pair p - 1))

/-- R233: `SP <- SP + e`, with the carries of R183. -/
def Obligations.AddDisplacementToSP : Prop :=
  ∀ (e : Byte) (s : State), described (.add_SP_e e) [0xE8, e] 16 ∧
    ∃ t, exec (.add_SP_e e) s = .next t ∧ (t.sp.toNat : Int) = ((s.sp.toNat : Int) + e.toInt) % 65536 ∧
      flagsAre t false false (decide (s.sp.toNat % 16 + e.toNat % 16 > 0xF)) (decide (s.sp.toNat % 256 + e.toNat > 0xFF)) ∧
      { t with sp := s.sp, f := s.f } = s

/-! ### Rotates, shifts, bits (44_rotate_shift_bit) -/

/-- R240 to R243: the accumulator rotates always clear Z. -/
def Obligations.AccumulatorRotatesClearZ : Prop :=
  ∀ s : State,
    (described .rlca [0x07] 4 ∧ ∃ t c, exec .rlca s = .next t ∧ isShift .rlc s.a s.cFlag t.a c ∧
      flagsAre t false false false c ∧ { t with a := s.a, f := s.f } = s) ∧
    (described .rrca [0x0F] 4 ∧ ∃ t c, exec .rrca s = .next t ∧ isShift .rrc s.a s.cFlag t.a c ∧
      flagsAre t false false false c ∧ { t with a := s.a, f := s.f } = s) ∧
    (described .rla [0x17] 4 ∧ ∃ t c, exec .rla s = .next t ∧ isShift .rl s.a s.cFlag t.a c ∧
      flagsAre t false false false c ∧ { t with a := s.a, f := s.f } = s) ∧
    (described .rra [0x1F] 4 ∧ ∃ t c, exec .rra s = .next t ∧ isShift .rr s.a s.cFlag t.a c ∧
      flagsAre t false false false c ∧ { t with a := s.a, f := s.f } = s)

/-- R244 and the eight register forms: the result of the table, Z from the result. -/
def Obligations.ShiftsOfARegister : Prop :=
  ∀ (op : RotOp) (r : Reg8) (s : State),
    described (.rot op (.reg r)) [0xCB, op8 (8 * rotCode op + regCode r)] 8 ∧
      ∃ t c, exec (.rot op (.reg r)) s = .next t ∧ isShift op (s.reg r) s.cFlag (t.reg r) c ∧
        flagsAre t (decide (t.reg r = 0)) false false c ∧ writesRegister s { t with f := s.f } r (t.reg r)

/-- The eight `(HL)` forms: read, shift, program write; the flags come from the computed result. -/
def Obligations.ShiftsOfTheByteAtHL : Prop :=
  ∀ (op : RotOp) (s : State),
    described (.rot op .atHL) [0xCB, op8 (8 * rotCode op + 6)] 16 ∧
      ∃ t res c, exec (.rot op .atHL) s = .next t ∧ isShift op (s.read8 s.hl true) s.cFlag res c ∧
        { t with f := s.f } = s.write8 s.hl res true ∧ flagsAre t (decide (res = 0)) false false c

/-- R261, R262: Z is the complement of the tested bit, C is kept, nothing but `F` changes. -/
def Obligations.BitTestsWriteOnlyFlags : Prop :=
  ∀ (b : Idx3) (s : State),
    (∀ r, described (.bit b (.reg r)) [0xCB, op8 (0x40 + 8 * b.val + regCode r)] 8 ∧
      ∃ t, exec (.bit b (.reg r)) s = .next t ∧
        flagsAre t (!(s.reg r).getLsbD b.val) false true s.cFlag ∧ { t with f := s.f } = s) ∧
    (described (.bit b .atHL) [0xCB, op8 (0x46 + 8 * b.val)] 12 ∧
      ∃ t, exec (.bit b .atHL) s = .next t ∧
        flagsAre t (!(s.read8 s.hl true).getLsbD b.val) false true s.cFlag ∧ { t with f := s.f } = s)

/-- R263 to R266: one bit of the operand, no flag; the `(HL)` forms always write. -/
def Obligations.BitWritesChangeOneBit : Prop :=
  ∀ (b : Idx3) (s : State),
    (∀ r, described (.res b (.reg r)) [0xCB, op8 (0x80 + 8 * b.val + regCode r)] 8 ∧
      ∃ t v, exec (.res b (.reg r)) s = .next t ∧ writesRegister s t r v ∧
        ∀ i, v.getLsbD i = (decide (i ≠ b.val) && (s.reg r).getLsbD i)) ∧
    (described (.res b .atHL) [0xCB, op8 (0x86 + 8 * b.val)] 16 ∧
      ∃ v, exec (.res b .atHL) s = .next (s.write8 s.hl v true) ∧
        ∀ i, v.getLsbD i = (decide (i ≠ b.val) && (s.read8 s.hl true).getLsbD i)) ∧
    (∀ r, described (.set b (.reg r)) [0xCB, op8 (0xC0 + 8 * b.val + regCode r)] 8 ∧
      ∃ t v, exec (.set b (.reg r)) s = .next t ∧ writesRegister s t r v ∧
        ∀ i, v.getLsbD i = (decide (i = b.val) || (s.reg r).getLsbD i)) ∧
    (described (.set b .atHL) [0xCB, op8 (0xC6 + 8 * b.val)] 16 ∧
      ∃ v, exec (.set b .atHL) s = .next (s.write8 s.hl v true) ∧
        ∀ i, v.getLsbD i = (decide (i = b.val) || (s.read8 s.hl true).getLsbD i))

/-- R306: the byte 0xCB performs the operation of its second byte's entry in the extended table, and completes; length
and cost are the entry's. -/
def Obligations.PrefixByteSelectsTheExtendedTable : Prop :=
  ∀ (op2 : Byte) (s : State),
    decode [0xCB, op2] = .ok (decodeExtended op2, []) ∧
    exec (.prefixCB op2) s = exec (decodeExtended op2) s ∧ (∃ t, exec (.prefixCB op2) s = .next t) ∧
    (Instr.prefixCB op2).length = 2 ∧ (decodeExtended op2).length = 2 ∧
    (Instr.prefixCB op2).baseCycles = (decodeExtended op2).baseCycles

/-! ### Control transfer (45_control) and system (46_system). `s.pc` is `PCnext` on entry. -/

/-- R281, R283, R284: the unconditional jumps write `PC` and nothing else. -/
def Obligations.JumpsWriteOnlyPC : Prop :=
  (∀ nn s, described (.jp nn) [0xC3, nn.extractLsb' 0 8, nn.extractLsb' 8 8] 16 ∧
    exec (.jp nn) s = .next { s with pc := nn }) ∧
  (∀ s, described .jp_HL [0xE9] 4 ∧ exec .jp_HL s = .next { s with pc := s.hl }) ∧
  (∀ e s, described (.jr e) [0x18, e] 12 ∧
    ∃ t, exec (.jr e) s = .next t ∧ (t.pc.toNat : Int) = ((s.pc.toNat : Int) + e.toInt) % 65536 ∧ { t with pc := s.pc } = s)

/-- R280, R282, R285, R287, R289: a conditional transfer does what the unconditional one does when its condition holds
in the flags, and nothing otherwise; its base cost is that of the transfer not taken, and `TAKEN_EXTRA` is reported on
top of it when it is taken. -/
def Obligations.ConditionalTransfersFollowTheFlag : Prop :=
  ∀ (cc : Cond) (nn : Word) (e : Byte) (s : State),
    let holds := match cc with
      | .nz => s.zFlag = false | .z => s.zFlag = true | .nc => s.cFlag = false | .c => s.cFlag = true
    described (.jpCond nn cc) [op8 (0xC2 + 8 * condCode cc), nn.extractLsb' 0 8, nn.extractLsb' 8 8] 12 ∧
    described (.jrCond e cc) [op8 (0x20 + 8 * condCode cc), e] 8 ∧
    described (.callCond nn cc) [op8 (0xC4 + 8 * condCode cc), nn.extractLsb' 0 8, nn.extractLsb' 8 8] 12 ∧
    described (.retCond cc) [op8 (0xC0 + 8 * condCode cc)] 8 ∧
    (holds → exec (.jpCond nn cc) s = exec (.jp nn) s ∧ exec (.jrCond e cc) s = exec (.jr e) s ∧
      exec (.callCond nn cc) s = exec (.call nn) s ∧ exec (.retCond cc) s = exec .ret s) ∧
    (¬ holds → exec (.jpCond nn cc) s = .next s ∧ exec (.jrCond e cc) s = .next s ∧
      exec (.callCond nn cc) s = .next s ∧ exec (.retCond cc) s = .next s) ∧
    (∃ t, exec (.jpCond nn cc) s = .next t) ∧ (∃ t, exec (.jrCond e cc) s = .next t) ∧
    (∃ t, exec (.callCond nn cc) s = .next t) ∧ (∃ t, exec (.retCond cc) s = .next t) ∧
    ∀ i ∈ [Instr.jpCond nn cc, .jrCond e cc, .callCond nn cc, .retCond cc],
      (holds → s.reportedCycles i = i.baseCycles + s.takenExtra i.opcode) ∧ (¬ holds → s.reportedCycles i = i.baseCycles)

/-- R286, R291: `PCnext` is pushed, high byte first, and `PC` takes the target. -/
def Obligations.CallsPushTheReturnAddress : Prop :=
  (∀ nn s, described (.call nn) [0xCD, nn.extractLsb' 0 8, nn.extractLsb' 8 8] 24 ∧
    exec (.call nn) s =
      .next { ({ ({ s with sp := s.sp - 1 }.write8 (s.sp - 1) (s.pc.extractLsb' 8 8) true) with
            sp := s.sp - 2 }).write8 (s.sp - 2) (s.pc.extractLsb' 0 8) true with pc := nn }) ∧
  (∀ t s, described (.rst t) [op8 (0xC7 + 8 * t.val)] 16 ∧
    exec (.rst t) s =
      .next { ({ ({ s with sp := s.sp - 1 }.write8 (s.sp - 1) (s.pc.extractLsb' 8 8) true) with
            sp := s.sp - 2 }).write8 (s.sp - 2) (s.pc.extractLsb' 0 8) true with pc := BitVec.ofNat 16 (8 * t.val) })

/-- R288, R290, R329: `PC` comes from the stack; `RETI` also sets `IME` and clears the latch, `RET` touches neither. -/
def Obligations.ReturnsPopPC : Prop :=
  ∀ s : State,
    (described .ret [0xC9] 16 ∧
      exec .ret s = .next { s with
        pc := ({ s with sp := s.sp + 1 }.read8 (s.sp + 1) true) ++ (s.read8 s.sp true), sp := s.sp + 2 }) ∧
    (described .reti [0xD9] 16 ∧
      exec .reti s = .next { s with
        pc := ({ s with sp := s.sp + 1 }.read8 (s.sp + 1) true) ++ (s.read8 s.sp true), sp := s.sp + 2
        ime := true, inService := false })

/-- R301, R303, R304, R305: `NOP` and `STOP` (whatever its second byte) do nothing, `DI` and `EI` act on `IME` at once. -/
def Obligations.NopStopDiEi : Prop :=
  ∀ (n : Byte) (s : State),
    (described .nop [0x00] 4 ∧ exec .nop s = .next s) ∧
    (described (.stop n) [0x10, n] 4 ∧ exec (.stop n) s = .next s) ∧
    (described .di [0xF3] 4 ∧ exec .di s = .next { s with ime := false }) ∧
    (described .ei [0xFB] 4 ∧ exec .ei s = .next { s with ime := true })

/-- R302: `HALT` sets `halted` and nothing else; from then on `execute_one` reports 4 and changes nothing, fetching
nothing, while `halted` is 1. -/
def Obligations.HaltSuspendsDecode : Prop :=
  (∀ s : State, described .halt [0x76] 4 ∧ exec .halt s = .next { s with halted := true }) ∧
  (∀ s : State, s.halted = true → s.executeOne = .next (s, 4))

/-- R307, R346: each of the eleven opcodes faults with its value and the address it was fetched from, a step that
fetches one in the running state does so too, and no step stops in any other way. -/
def Obligations.OnlyIllegalOpcodesStopTheMachine : Prop :=
  let illegal : List (Instr × Byte) :=
    [(.illegal_D3, 0xD3), (.illegal_DB, 0xDB), (.illegal_DD, 0xDD), (.illegal_E3, 0xE3), (.illegal_E4, 0xE4),
      (.illegal_EB, 0xEB), (.illegal_EC, 0xEC), (.illegal_ED, 0xED), (.illegal_F4, 0xF4), (.illegal_FC, 0xFC),
      (.illegal_FD, 0xFD)]
  (∀ (i : Instr) (op : Byte), (i, op) ∈ illegal →
    (∀ s, exec i s = .fault (.illegalOpcode op s.pc)) ∧ (∀ b1 b2, decodeAt op b1 b2 = i)) ∧
  ∀ s : State,
    (∀ op ∈ illegal.map Prod.snd, s.checkInterrupt.halted = false →
      s.checkInterrupt.read8 s.checkInterrupt.pc true = op →
      step s = .fault (.illegalOpcode op s.checkInterrupt.pc)) ∧
    (∀ r, step s = .fault r → s.checkInterrupt.halted = false ∧
      ∃ op ∈ illegal.map Prod.snd, s.checkInterrupt.read8 s.checkInterrupt.pc true = op ∧
        r = .illegalOpcode op s.checkInterrupt.pc) ∧
    ∀ r, step s ≠ .refused r

/-! ### The step (60_exceptions) and `execute_one` -/

/-- R300, R320: when the machine runs after `check_interrupt` and the bytes at `PC` decode to `i`, a step is `exec i`
with `PC` after the instruction, then the timer with the reported cycles, then the peripherals. The operand bytes are read
with `PC` advanced, the second byte of a 0xCB pair before that (R300 steps 3 to 5). -/
def Obligations.StepRunsTheDecodedInstruction : Prop :=
  ∀ (s u v t : State) (i : Instr) (rest : List Byte),
    u = s.checkInterrupt → u.halted = false →
    v = (if u.read8 u.pc true = 0xCB then u
      else { u with pc := u.pc + BitVec.ofNat 16 (lengthOf (u.read8 u.pc true)) }) →
    decode [u.read8 u.pc true, v.read8 (u.pc + 1) true, v.read8 (u.pc + 2) true] = .ok (i, rest) →
    exec i { u with pc := u.pc + BitVec.ofNat 16 i.length } = .next t →
    step s = .next ((t.tickTimer (u.reportedCycles i)).peripherals (u.reportedCycles i))

/-- R308: the reported cost is the table's, a multiple of 4; `TAKEN_EXTRA` is added exactly for a conditional transfer
that is taken, and is 0 for every opcode with the parameters of reset. -/
def Obligations.ReportedCyclesAreTheTables : Prop :=
  (∀ (s : State) (i : Instr), i.condition = none → s.reportedCycles i = i.baseCycles) ∧
  (∀ (s : State) (cc : Cond) (i : Instr), i.condition = some cc →
    s.reportedCycles i = i.baseCycles + (if s.cond cc then s.takenExtra i.opcode else 0)) ∧
  (∀ i : Instr, (∃ cc, i.condition = some cc) ↔
    ∃ cc nn e, i ∈ [Instr.jpCond nn cc, .jrCond e cc, .callCond nn cc, .retCond cc]) ∧
  (∀ i : Instr, i.baseCycles % 4 = 0) ∧
  (∀ op, State.reset.takenExtra op = 0)

/-- R57, R58: every register and latch of the engine and every register of the bus at its reset value. -/
def Obligations.ResetValues : Prop :=
  (∀ r, State.reset.reg r = 0) ∧ State.reset.f = 0 ∧ State.reset.pc = 0 ∧ State.reset.sp = 0 ∧
  State.reset.ime = false ∧ State.reset.halted = false ∧ State.reset.inService = false ∧
  State.reset.divAcc = 0 ∧ State.reset.timaAcc = 0 ∧ State.reset.bootDone = decide (State.reset.params.bootSize = 0) ∧
  State.reset.banks = resetBanks State.reset.params.controller ∧ State.reset.wramSel = 1 ∧
  ∀ a ∈ [Config.IE, Config.IF, Config.DIV, Config.TIMA, Config.TMA, Config.TAC, Config.JOYP, Config.LY, Config.DMA,
    Config.BOOT], State.reset.read8 a false = 0

/-! ### Interrupts -/

/-- R324, R325: service pushes `PC`, clears the source's bit of `IE` and of `IF` in the bytes the push left, clears `IME`,
jumps to the vector and sets the latch. -/
def Obligations.ServiceEntersTheHandler : Prop :=
  ∀ (s : State) (i : Source),
    let p := s.push16 s.pc
    let q := p.write8 0xFFFF (p.read8 0xFFFF false &&& ~~~((1 : Byte) <<< i.index)) false
    let t := s.service i
    t = { q.write8 0xFF0F (q.read8 0xFF0F false &&& ~~~((1 : Byte) <<< i.index)) false with
          ime := false, pc := BitVec.ofNat 16 (0x40 + 8 * i.index), inService := true } ∧
    t.sp = s.sp - 2 ∧ (∀ r, t.reg r = s.reg r) ∧ t.f = s.f ∧
    (t.read8 0xFFFF false).getLsbD i.index = false ∧ (t.read8 0xFF0F false).getLsbD i.index = false

/-- R322: nothing while the latch is set or nothing is pending; otherwise the wake, and with `IME` set the service of
the lowest pending source, and of it alone. -/
def Obligations.CheckServicesTheLowestPendingSource : Prop :=
  (∀ s : State, s.inService = true → s.checkInterrupt = s) ∧
  (∀ s : State, nothingPending s = true → s.checkInterrupt = s) ∧
  (∀ (s : State) (i : Source), s.inService = false → pending s i = true → s.ime = false →
    s.checkInterrupt = { s with halted := false }) ∧
  (∀ (s : State) (i : Source), s.inService = false → pending s i = true →
    (∀ j : Source, j.index < i.index → pending s j = false) → s.ime = true →
    s.checkInterrupt = { s.service i with halted := false })

/-- R327 (derived): no instruction but `RETI` clears the mid-service latch, and none sets it. -/
def Obligations.OnlyReturnFromInterruptClearsTheLatch : Prop :=
  ∀ (i : Instr) (s t : State), exec i s = .next t → i ≠ .reti → t.inService = s.inService

/-- R382: halted inside a handler is a hang: every step charges 4 cycles and leaves the registers, `PC`, `halted` and the
latch as they are. -/
def Obligations.HaltInsideAHandlerHangs : Prop :=
  ∀ s : State, hung s = true →
    ∃ t, step s = .next t ∧ hung t = true ∧ t.lastCycles = 4 ∧ t.pc = s.pc ∧ t.sp = s.sp ∧ t.ime = s.ime ∧
      t.f = s.f ∧ ∀ r, t.reg r = s.reg r

/-! ### The bus (20_memory) -/

/-- R61, R62, R68: resolution is total on valid addresses and gives a cell that exists; the unusable range has none. -/
def Obligations.EveryValidAddressHasOneCell : Prop :=
  ∀ (s : State) (a : Word), paramsLegal s = true →
    (s.valid a = true → ∃ x, s.resolve a = some x ∧ x.exists_ s.params = true) ∧
    (s.resolve a = none ↔ 0xFEA0 ≤ a.toNat ∧ a.toNat ≤ 0xFEFF) ∧
    (s.valid a = false ↔ (0xFEA0 ≤ a.toNat ∧ a.toNat ≤ 0xFEFF) ∨
      (0xA000 ≤ a.toNat ∧ a.toNat ≤ 0xBFFF ∧ (s.params.eramBanks = 0 ∨ s.banks.ramEnable = false)))

/-- R65: a rejected read gives 0x00 and a rejected write changes no state at all. -/
def Obligations.RejectedAccessHasNoEffect : Prop :=
  ∀ (s : State) (a : Word) (v : Byte) (prog : Bool),
    ((0xFEA0 ≤ a.toNat ∧ a.toNat ≤ 0xFEFF) ∨
      (0xA000 ≤ a.toNat ∧ a.toNat ≤ 0xBFFF ∧ (s.params.eramBanks = 0 ∨ s.banks.ramEnable = false))) →
    s.read8 a prog = 0x00 ∧ s.write8 a v prog = s

/-- R61, R69, R71, R73: the banked regions, the mirrors and the overlay, as reads of the cells they show. -/
def Obligations.RegionsShowTheirCells : Prop :=
  ∀ (s : State),
    (∀ k, k < 0x4000 → s.resolve (BitVec.ofNat 16 k) =
      some (if k < s.params.bootSize ∧ s.bootDone = false then ⟨.bootrom, 0, k⟩ else ⟨.rom0, 0, k⟩)) ∧
    (∀ k, k < 0x4000 → s.resolve (BitVec.ofNat 16 (0x4000 + k)) =
      some ⟨.romx, s.banks.romBank % s.params.romBanks, k⟩) ∧
    (∀ k, k < 0x1000 → s.resolve (BitVec.ofNat 16 (0xC000 + k)) = some ⟨.wram, 0, k⟩ ∧
      s.resolve (BitVec.ofNat 16 (0xE000 + k)) = some ⟨.wram, 0, k⟩) ∧
    (∀ k, k < 0x1000 → s.resolve (BitVec.ofNat 16 (0xD000 + k)) = some ⟨.wram, s.wramSel, k⟩) ∧
    (∀ k, k < 0xE00 → s.resolve (BitVec.ofNat 16 (0xF000 + k)) = some ⟨.wram, s.wramSel, k⟩) ∧
    1 ≤ s.wramSel ∧ s.wramSel ≤ 7

/-- R80 (its property S8-1, for every address of plain storage): a written byte is read back unchanged, by a read of
either flavour after a write of either; and every address of another cell reads as before. -/
def Obligations.WrittenByteIsReadBackAndOthersStand : Prop :=
  ∀ (s : State) (a : Word) (v : Byte) (p q : Bool), fixedMap s → plainStorage s a →
    (s.write8 a v p).read8 a q = v ∧
    ∀ b : Word, s.resolve b ≠ s.resolve a → (s.write8 a v p).read8 b q = s.read8 b q

/-- R74 (derived): a write changes nothing but bytes of storage, the bank scalars and the boot latch, and of the bytes
only the one the address resolves to and, at the DMA register, the sprite table. -/
def Obligations.WriteChangesOnlyItsCell : Prop :=
  ∀ (s : State) (a : Word) (v : Byte) (p : Bool),
    sameOutsideStorage s (s.write8 a v p) ∧ onlyStoreChanges s s (s.write8 a v p) a v ∧
    (s.params.controller = .noController → (s.write8 a v p).banks = s.banks) ∧
    (a ≠ Config.BOOT → (s.write8 a v p).bootDone = s.bootDone)

/-- The frame of every one-byte storing form (R153, R154, R157 to R166, R217, R219, R246 to R266): all of memory but the
cell of the form's address is as before. -/
def Obligations.StoringFormsChangeOnlyTheirCell : Prop :=
  ∀ (s t : State) (n : Byte) (nn : Word) (r : Reg8) (b : Idx3) (op : RotOp) (p : Indirect),
    (exec (.ld .atHL (.reg r)) s = .next t → onlyStoreChanges s s t s.hl (s.reg r)) ∧
    (exec (.ldImm n .atHL) s = .next t → onlyStoreChanges s s t s.hl n) ∧
    (exec (.storeA p) s = .next t → onlyStoreChanges s s t (s.indirect p) s.a) ∧
    (exec (.ld_atNN_A nn) s = .next t → onlyStoreChanges s s t nn s.a) ∧
    (exec (.ldh_atN_A n) s = .next t → onlyStoreChanges s s t (highPage n) s.a) ∧
    (exec .ldh_atC_A s = .next t → onlyStoreChanges s s t (highPage s.c) s.a) ∧
    (exec (.inc .atHL) s = .next t → onlyStoreChanges s s t s.hl (s.memRead s.hl + 1)) ∧
    (exec (.dec .atHL) s = .next t → onlyStoreChanges s s t s.hl (s.memRead s.hl - 1)) ∧
    (exec (.rot op .atHL) s = .next t → onlyStoreChanges s s t s.hl (shift8 op (s.memRead s.hl) s.cFlag).1) ∧
    (exec (.res b .atHL) s = .next t → onlyStoreChanges s s t s.hl (s.memRead s.hl &&& ~~~((1 : Byte) <<< b.val))) ∧
    (exec (.set b .atHL) s = .next t → onlyStoreChanges s s t s.hl (s.memRead s.hl ||| (1 : Byte) <<< b.val))

/-- R67, R349: every program read of the joypad address gives `poll()`, a function of the step index, the same throughout
a step and 0xFF by default; an internal read gives the stored byte; a write stores. -/
def Obligations.JoypadReadsPoll : Prop :=
  (∀ (s : State) (v : Byte) (p : Bool),
    s.read8 0xFF00 true = (match s.params.poll with
      | .listed bytes after => bytes.getD s.stepIndex after
      | .external id => Config.poll id s.stepIndex) ∧
    (s.write8 0xFF00 v p).read8 0xFF00 false = v ∧
    (∀ i t, exec i s = .next t → t.read8 0xFF00 true = s.read8 0xFF00 true)) ∧
  ∀ (s : State), s.params = Config.Params.default → s.read8 0xFF00 true = 0xFF

/-- R77, R78: a program write to `DIV` or `LY` stores 0x00, an internal one its value; `div_acc` is untouched. -/
def Obligations.DividerAndLineWritesStoreZero : Prop :=
  ∀ (s : State) (v : Byte) (a : Word), a = 0xFF04 ∨ a = 0xFF44 →
    (s.write8 a v true).read8 a false = 0x00 ∧ (s.write8 a v false).read8 a false = v ∧
    ∀ p, (s.write8 a v p).divAcc = s.divAcc

/-- R79: a non-zero write sets the latch, a zero write leaves it, the byte is stored either way. -/
def Obligations.BootRegisterSetsTheLatch : Prop :=
  ∀ (s : State) (v : Byte) (p : Bool),
    (s.write8 0xFF50 v p).bootDone = (s.bootDone || decide (v ≠ 0)) ∧ (s.write8 0xFF50 v p).read8 0xFF50 false = v

/-- R76: a write of either flavour to the DMA register copies the 160 bytes at `v * 0x100`, read as internal accesses,
to the sprite table, and then stores `v`. -/
def Obligations.DmaCopiesTheSourcePage : Prop :=
  ∀ (s : State) (v : Byte) (p : Bool), fixedMap s →
    (∀ i, i < 160 → (s.write8 0xFF46 v p).cell ⟨.oam, 0, i⟩ = s.read8 (BitVec.ofNat 16 (v.toNat * 0x100 + i)) false) ∧
    (s.write8 0xFF46 v p).read8 0xFF46 false = v

/-- R7, R34, R79 (derived): a step changes no parameter of the machine, never clears the boot-complete latch, and counts
one step. -/
def Obligations.StepKeepsParametersAndBootLatch : Prop :=
  ∀ s t : State, step s = .next t →
    t.params = s.params ∧ (s.bootDone = true → t.bootDone = true) ∧ t.stepIndex = s.stepIndex + 1

/-! ### The timer (60_exceptions section 3) -/

/-- R334: over any number of cycles `DIV` and `div_acc` together count each one, wrapping silently. -/
def Obligations.DividerCountsEveryCycle : Prop :=
  ∀ (s : State) (n : Nat), s.divAcc ≤ 255 →
    dividerCycles (s.tickTimer n) = (dividerCycles s + n) % 65536

/-- R335, R337: one cycle of the counter: still while disabled; else one more sub-cycle, and at the threshold of the
speed-select field the accumulator is reset and `TIMA`, below its maximum, goes up by one. -/
def Obligations.CounterCountsAtTheSelectedRate : Prop :=
  ∀ (s : State),
    let tac := (s.read8 Config.TAC false).toNat
    let threshold := if tac % 4 = 0 then 1024 else if tac % 4 = 1 then 16 else if tac % 4 = 2 then 64 else 256
    ((tac / 4) % 2 = 0 → s.tickCounter = s) ∧
    ((tac / 4) % 2 = 1 → s.timaAcc + 1 < threshold → s.tickCounter = { s with timaAcc := s.timaAcc + 1 }) ∧
    ((tac / 4) % 2 = 1 → threshold ≤ s.timaAcc + 1 → s.read8 Config.TIMA false ≠ 0xFF →
      s.tickCounter.timaAcc = 0 ∧
      (s.tickCounter.read8 Config.TIMA false).toNat = (s.read8 Config.TIMA false).toNat + 1 ∧
      s.tickCounter.read8 Config.IE false = s.read8 Config.IE false ∧
      s.tickCounter.read8 Config.IF false = s.read8 Config.IF false)

/-- R336: on the increment that would wrap, in the same cycle, `TIMA` takes `TMA` and bit 2 of both `IE` and `IF` is set,
the other bits kept; no register, mode or latch changes. -/
def Obligations.CounterOverflowReloadsAndRequests : Prop :=
  ∀ (s : State),
    let tac := (s.read8 Config.TAC false).toNat
    let threshold := if tac % 4 = 0 then 1024 else if tac % 4 = 1 then 16 else if tac % 4 = 2 then 64 else 256
    (tac / 4) % 2 = 1 → threshold ≤ s.timaAcc + 1 → s.read8 Config.TIMA false = 0xFF →
    s.tickCounter.timaAcc = 0 ∧
    s.tickCounter.read8 Config.TIMA false = s.read8 Config.TMA false ∧
    s.tickCounter.read8 Config.IE false = (s.read8 Config.IE false ||| 0x04) ∧
    s.tickCounter.read8 Config.IF false = (s.read8 Config.IF false ||| 0x04) ∧
    s.tickCounter.bootDone = s.bootDone ∧ sameOutsideStorage s { s.tickCounter with timaAcc := s.timaAcc }

/-! ### Encoding (30_encoding) -/

/-- R130, R131: words written out bit by bit from the two opcode maps decode to their instructions. -/
def Obligations.WordsOfTheOpcodeMapsDecode : Prop :=
  decodeTableWord 8 0b01_000_001 = some .ld_B_C ∧ decodeTableWord 8 0b01_110_110 = some .halt ∧
  decodeTableWord 24 0x1234_21 = some (.ld_HL_nn 0x1234) ∧ decodeTableWord 8 0b10_111_110 = some .cp_A_atHL ∧
  decodeTableWord 16 0xFE_20 = some (.jr_NZ 0xFE) ∧ decodeTableWord 8 0b11_110_001 = some .pop_AF ∧
  decodeTableWord 8 0b11_101_111 = some .rst_28 ∧ decodeTableWord 8 0b11_010_011 = some .illegal_D3 ∧
  decodeTableWord 16 0b11001011_00_110_111 = some .swap_A ∧ decodeTableWord 16 0b11001011_01_111_110 = some .bit7_atHL

/-- R120, R121: decoding the bytes of any well-formed instruction, whatever follows them, gives the instruction back, with
every operand at every value, and leaves what follows. -/
def Obligations.DecodeInvertsEncode : Prop :=
  ∀ (i : Instr) (rest : List Byte), i.wellFormed = true → decode (encode i ++ rest) = .ok (i, rest)

/-- R120, R130, R131: every byte value starts an instruction, and encoding what was decoded gives the bytes back: each
word has one meaning. -/
def Obligations.EncodeInvertsDecode : Prop :=
  ∀ (b0 b1 b2 : Byte), ∃ i rest, decode [b0, b1, b2] = .ok (i, rest) ∧ encode i ++ rest = [b0, b1, b2] ∧
    i.wellFormed = true ∧ decodeAt b0 b1 b2 = i

/-! ### The invariant -/

/-- R24, R30, R31 and the canonical form of storage hold at reset. -/
def Obligations.ResetMeetsTheInvariant : Prop := Inv State.reset

/-- R24, R30, R31: whatever instruction runs, whatever interrupt is taken, every step keeps the storage canonical, the low
nibble of `F` zero, and the accumulators in their ranges. -/
def Obligations.EveryStepKeepsTheInvariant : Prop :=
  ∀ s t : State, Inv s → step s = .next t → Inv t
end

