-- ==== Sys2Proof/Laws/Memory.lean ====
section
/-! SUPPORT. Laws of the storage list: a read after a write, and the canonical form, which every operation keeps and in
which equal contents are equal lists. -/

namespace Sys2Proof.Machine.Memory

theorem read_erase_self (m : Memory) (k : Nat) : Memory.read (Memory.erase m k) k = Memory.unlisted := by
  induction m with
  | nil => rfl
  | cons c m ih =>
    obtain ⟨j, v⟩ := c
    by_cases h : j = k
    · simpa [Memory.erase, h] using ih
    · simpa [Memory.erase, h, Memory.read] using ih

theorem read_erase_other (m : Memory) {k j : Nat} (h : j ≠ k) :
    Memory.read (Memory.erase m k) j = Memory.read m j := by
  induction m with
  | nil => rfl
  | cons c m ih =>
    obtain ⟨i, v⟩ := c
    by_cases hi : i = k
    · subst hi
      simpa [Memory.erase, Memory.read, Ne.symm h] using ih
    · simp only [Memory.erase, Memory.read] at ih ⊢
      simp [hi, Memory.read, ih]

theorem ne_of_mem_erase {m : Memory} {k : Nat} {c : Host.Cell} (h : c ∈ Memory.erase m k) : c.1 ≠ k := by
  simpa using (List.mem_filter.1 h).2

theorem mem_of_mem_erase {m : Memory} {k : Nat} {c : Host.Cell} (h : c ∈ Memory.erase m k) : c ∈ m :=
  (List.mem_filter.1 h).1

theorem read_insert_self {m : Memory} {k : Nat} (v : Byte) (h : ∀ c ∈ m, c.1 ≠ k) :
    Memory.read (Memory.insert m k v) k = v := by
  induction m with
  | nil => simp [Memory.insert, Memory.read]
  | cons c m ih =>
    obtain ⟨j, w⟩ := c
    have hj : j ≠ k := h (j, w) (by simp)
    have hm : ∀ c ∈ m, c.1 ≠ k := fun c hc => h c (by simp [hc])
    by_cases hk : k < j
    · simp [Memory.insert, hk, Memory.read]
    · simp [Memory.insert, hk, Memory.read, hj, ih hm]

theorem read_insert_other (m : Memory) {k j : Nat} (v : Byte) (h : j ≠ k) :
    Memory.read (Memory.insert m k v) j = Memory.read m j := by
  induction m with
  | nil => simp [Memory.insert, Memory.read, Ne.symm h]
  | cons c m ih =>
    obtain ⟨i, w⟩ := c
    by_cases hk : k < i
    · simp [Memory.insert, hk, Memory.read, Ne.symm h]
    · simp [Memory.insert, hk, Memory.read, ih]

/-- A read after a write to the same key gives the byte written. -/
@[simp] theorem read_write_self (m : Memory) (k : Nat) (v : Byte) : Memory.read (Memory.write m k v) k = v := by
  unfold Memory.write
  split
  · rename_i h
    rw [h, read_erase_self]
  · exact read_insert_self v fun c hc => ne_of_mem_erase hc

/-- A write leaves every other key alone. -/
theorem read_write_other (m : Memory) {k j : Nat} (v : Byte) (h : j ≠ k) :
    Memory.read (Memory.write m k v) j = Memory.read m j := by
  unfold Memory.write
  split
  · exact read_erase_other m h
  · rw [read_insert_other _ v h, read_erase_other m h]

@[simp] theorem read_nil (k : Nat) : Memory.read [] k = Memory.unlisted := rfl

/-! ### The canonical form -/

@[simp] theorem wf_nil : Memory.wf [] = true := rfl

theorem wf_cons_iff (k : Nat) (v : Byte) (m : Memory) :
    Memory.wf ((k, v) :: m) = true ↔ v ≠ Memory.unlisted ∧ (∀ c ∈ m, k < c.1) ∧ Memory.wf m = true := by
  simp [Memory.wf, and_assoc]

theorem wf_erase {m : Memory} (h : Memory.wf m = true) (k : Nat) : Memory.wf (Memory.erase m k) = true := by
  induction m with
  | nil => rfl
  | cons c m ih =>
    obtain ⟨j, v⟩ := c
    obtain ⟨hv, hlt, hm⟩ := (wf_cons_iff j v m).1 h
    by_cases hj : j = k
    · simpa [Memory.erase, hj] using ih hm
    · have he : Memory.erase ((j, v) :: m) k = (j, v) :: Memory.erase m k := by simp [Memory.erase, hj]
      rw [he]
      exact (wf_cons_iff _ _ _).2 ⟨hv, fun c hc => hlt c (mem_of_mem_erase hc), ih hm⟩

theorem mem_insert {m : Memory} {k : Nat} {v : Byte} {c : Host.Cell} (h : c ∈ Memory.insert m k v) :
    c = (k, v) ∨ c ∈ m := by
  induction m with
  | nil => simpa [Memory.insert] using h
  | cons d m ih =>
    obtain ⟨j, w⟩ := d
    by_cases hk : k < j
    · simpa [Memory.insert, hk] using h
    · simp only [Memory.insert, if_neg hk, List.mem_cons] at h ⊢
      rcases h with h | h
      · exact .inr (.inl h)
      · rcases ih h with h | h
        · exact .inl h
        · exact .inr (.inr h)

theorem wf_insert {m : Memory} {k : Nat} {v : Byte} (h : Memory.wf m = true) (hv : v ≠ Memory.unlisted)
    (hk : ∀ c ∈ m, c.1 ≠ k) : Memory.wf (Memory.insert m k v) = true := by
  induction m with
  | nil => exact (wf_cons_iff _ _ _).2 ⟨hv, by simp, rfl⟩
  | cons d m ih =>
    obtain ⟨j, w⟩ := d
    obtain ⟨hw, hlt, hm⟩ := (wf_cons_iff j w m).1 h
    have hj : j ≠ k := hk (j, w) (by simp)
    by_cases hkj : k < j
    · simp only [Memory.insert, if_pos hkj]
      refine (wf_cons_iff _ _ _).2 ⟨hv, ?_, h⟩
      intro c hc
      rcases List.mem_cons.1 hc with rfl | hc
      · exact hkj
      · exact lt_trans hkj (hlt c hc)
    · simp only [Memory.insert, if_neg hkj]
      refine (wf_cons_iff _ _ _).2 ⟨hw, ?_, ih hm fun c hc => hk c (by simp [hc])⟩
      intro c hc
      rcases mem_insert hc with rfl | hc
      · exact lt_of_le_of_ne (not_lt.1 hkj) hj
      · exact hlt c hc

/-- A write keeps the canonical form. -/
theorem wf_write {m : Memory} (h : Memory.wf m = true) (k : Nat) (v : Byte) :
    Memory.wf (Memory.write m k v) = true := by
  unfold Memory.write
  split
  · exact wf_erase h k
  · rename_i hv
    exact wf_insert (wf_erase h k) hv fun c hc => ne_of_mem_erase hc

theorem read_eq_unlisted {m : Memory} {k : Nat} (h : ∀ c ∈ m, c.1 ≠ k) : Memory.read m k = Memory.unlisted := by
  induction m with
  | nil => rfl
  | cons c m ih =>
    obtain ⟨j, v⟩ := c
    have hj : j ≠ k := h (j, v) (by simp)
    simp [Memory.read, hj, ih fun c hc => h c (by simp [hc])]

/-- Equal contents are equal data. -/
theorem eq_of_read_eq {m n : Memory} (hm : Memory.wf m = true) (hn : Memory.wf n = true)
    (h : ∀ k, Memory.read m k = Memory.read n k) : m = n := by
  induction m generalizing n with
  | nil =>
    cases n with
    | nil => rfl
    | cons c n =>
      obtain ⟨j, w⟩ := c
      have hw := h j
      simp [Memory.read] at hw
      exact absurd hw.symm ((wf_cons_iff j w n).1 hn).1
  | cons c m ih =>
    obtain ⟨k, v⟩ := c
    obtain ⟨hv, hlt, hm'⟩ := (wf_cons_iff k v m).1 hm
    cases n with
    | nil =>
      have hk := h k
      simp [Memory.read] at hk
      exact absurd hk hv
    | cons d n =>
      obtain ⟨j, w⟩ := d
      obtain ⟨hw, hlt', hn'⟩ := (wf_cons_iff j w n).1 hn
      have hkj : k = j := by
        rcases lt_trichotomy k j with hlt1 | heq | hgt
        · have hk := h k
          rw [read_eq_unlisted (m := (j, w) :: n) (k := k) (by
            intro c hc
            rcases List.mem_cons.1 hc with rfl | hc
            · exact (ne_of_lt hlt1).symm
            · exact (ne_of_lt (lt_trans hlt1 (hlt' c hc))).symm)] at hk
          simp [Memory.read] at hk
          exact absurd hk hv
        · exact heq
        · have hj := h j
          rw [read_eq_unlisted (m := (k, v) :: m) (k := j) (by
            intro c hc
            rcases List.mem_cons.1 hc with rfl | hc
            · exact (ne_of_lt hgt).symm
            · exact (ne_of_lt (lt_trans hgt (hlt c hc))).symm)] at hj
          simp [Memory.read] at hj
          exact absurd hj.symm hw
      subst hkj
      have hvw : v = w := by simpa [Memory.read] using h k
      subst hvw
      have hrest : ∀ i, Memory.read m i = Memory.read n i := by
        intro i
        by_cases hi : k = i
        · subst hi
          rw [read_eq_unlisted fun c hc => (ne_of_lt (hlt c hc)).symm,
            read_eq_unlisted fun c hc => (ne_of_lt (hlt' c hc)).symm]
        · simpa [Memory.read, hi] using h i
      rw [ih hm' hn' hrest]

end Sys2Proof.Machine.Memory
end

