-- ==== Sys2Proof/Laws/State.lean ====
section
/-! SUPPORT. One lemma per field per update of State: what each named update leaves in each field. -/

namespace Sys2Proof.Machine.State

variable (s : State)

/-! `setCell` -/

@[simp] theorem setCell_a (x : Loc) (v : Byte) : (s.setCell x v).a = s.a := rfl
@[simp] theorem setCell_f (x : Loc) (v : Byte) : (s.setCell x v).f = s.f := rfl
@[simp] theorem setCell_b (x : Loc) (v : Byte) : (s.setCell x v).b = s.b := rfl
@[simp] theorem setCell_c (x : Loc) (v : Byte) : (s.setCell x v).c = s.c := rfl
@[simp] theorem setCell_d (x : Loc) (v : Byte) : (s.setCell x v).d = s.d := rfl
@[simp] theorem setCell_e (x : Loc) (v : Byte) : (s.setCell x v).e = s.e := rfl
@[simp] theorem setCell_h (x : Loc) (v : Byte) : (s.setCell x v).h = s.h := rfl
@[simp] theorem setCell_l (x : Loc) (v : Byte) : (s.setCell x v).l = s.l := rfl
@[simp] theorem setCell_pc (x : Loc) (v : Byte) : (s.setCell x v).pc = s.pc := rfl
@[simp] theorem setCell_sp (x : Loc) (v : Byte) : (s.setCell x v).sp = s.sp := rfl
@[simp] theorem setCell_ime (x : Loc) (v : Byte) : (s.setCell x v).ime = s.ime := rfl
@[simp] theorem setCell_halted (x : Loc) (v : Byte) : (s.setCell x v).halted = s.halted := rfl
@[simp] theorem setCell_inService (x : Loc) (v : Byte) : (s.setCell x v).inService = s.inService := rfl
@[simp] theorem setCell_divAcc (x : Loc) (v : Byte) : (s.setCell x v).divAcc = s.divAcc := rfl
@[simp] theorem setCell_timaAcc (x : Loc) (v : Byte) : (s.setCell x v).timaAcc = s.timaAcc := rfl
@[simp] theorem setCell_bootDone (x : Loc) (v : Byte) : (s.setCell x v).bootDone = s.bootDone := rfl
@[simp] theorem setCell_banks (x : Loc) (v : Byte) : (s.setCell x v).banks = s.banks := rfl
@[simp] theorem setCell_mem (x : Loc) (v : Byte) : (s.setCell x v).mem = s.mem.write x.key v := rfl
@[simp] theorem setCell_params (x : Loc) (v : Byte) : (s.setCell x v).params = s.params := rfl
@[simp] theorem setCell_envQueue (x : Loc) (v : Byte) : (s.setCell x v).envQueue = s.envQueue := rfl
@[simp] theorem setCell_stepIndex (x : Loc) (v : Byte) : (s.setCell x v).stepIndex = s.stepIndex := rfl
@[simp] theorem setCell_lastCycles (x : Loc) (v : Byte) : (s.setCell x v).lastCycles = s.lastCycles := rfl

/-! `setFlags` -/

@[simp] theorem setFlags_a (x : Flags) : (s.setFlags x).a = s.a := rfl
@[simp] theorem setFlags_f (x : Flags) : (s.setFlags x).f = x.pack := rfl
@[simp] theorem setFlags_b (x : Flags) : (s.setFlags x).b = s.b := rfl
@[simp] theorem setFlags_c (x : Flags) : (s.setFlags x).c = s.c := rfl
@[simp] theorem setFlags_d (x : Flags) : (s.setFlags x).d = s.d := rfl
@[simp] theorem setFlags_e (x : Flags) : (s.setFlags x).e = s.e := rfl
@[simp] theorem setFlags_h (x : Flags) : (s.setFlags x).h = s.h := rfl
@[simp] theorem setFlags_l (x : Flags) : (s.setFlags x).l = s.l := rfl
@[simp] theorem setFlags_pc (x : Flags) : (s.setFlags x).pc = s.pc := rfl
@[simp] theorem setFlags_sp (x : Flags) : (s.setFlags x).sp = s.sp := rfl
@[simp] theorem setFlags_ime (x : Flags) : (s.setFlags x).ime = s.ime := rfl
@[simp] theorem setFlags_halted (x : Flags) : (s.setFlags x).halted = s.halted := rfl
@[simp] theorem setFlags_inService (x : Flags) : (s.setFlags x).inService = s.inService := rfl
@[simp] theorem setFlags_divAcc (x : Flags) : (s.setFlags x).divAcc = s.divAcc := rfl
@[simp] theorem setFlags_timaAcc (x : Flags) : (s.setFlags x).timaAcc = s.timaAcc := rfl
@[simp] theorem setFlags_bootDone (x : Flags) : (s.setFlags x).bootDone = s.bootDone := rfl
@[simp] theorem setFlags_banks (x : Flags) : (s.setFlags x).banks = s.banks := rfl
@[simp] theorem setFlags_mem (x : Flags) : (s.setFlags x).mem = s.mem := rfl
@[simp] theorem setFlags_params (x : Flags) : (s.setFlags x).params = s.params := rfl
@[simp] theorem setFlags_envQueue (x : Flags) : (s.setFlags x).envQueue = s.envQueue := rfl
@[simp] theorem setFlags_stepIndex (x : Flags) : (s.setFlags x).stepIndex = s.stepIndex := rfl
@[simp] theorem setFlags_lastCycles (x : Flags) : (s.setFlags x).lastCycles = s.lastCycles := rfl

/-! `setBC` -/

@[simp] theorem setBC_a (v : Word) : (s.setBC v).a = s.a := rfl
@[simp] theorem setBC_f (v : Word) : (s.setBC v).f = s.f := rfl
@[simp] theorem setBC_b (v : Word) : (s.setBC v).b = hiByte v := rfl
@[simp] theorem setBC_c (v : Word) : (s.setBC v).c = loByte v := rfl
@[simp] theorem setBC_d (v : Word) : (s.setBC v).d = s.d := rfl
@[simp] theorem setBC_e (v : Word) : (s.setBC v).e = s.e := rfl
@[simp] theorem setBC_h (v : Word) : (s.setBC v).h = s.h := rfl
@[simp] theorem setBC_l (v : Word) : (s.setBC v).l = s.l := rfl
@[simp] theorem setBC_pc (v : Word) : (s.setBC v).pc = s.pc := rfl
@[simp] theorem setBC_sp (v : Word) : (s.setBC v).sp = s.sp := rfl
@[simp] theorem setBC_ime (v : Word) : (s.setBC v).ime = s.ime := rfl
@[simp] theorem setBC_halted (v : Word) : (s.setBC v).halted = s.halted := rfl
@[simp] theorem setBC_inService (v : Word) : (s.setBC v).inService = s.inService := rfl
@[simp] theorem setBC_divAcc (v : Word) : (s.setBC v).divAcc = s.divAcc := rfl
@[simp] theorem setBC_timaAcc (v : Word) : (s.setBC v).timaAcc = s.timaAcc := rfl
@[simp] theorem setBC_bootDone (v : Word) : (s.setBC v).bootDone = s.bootDone := rfl
@[simp] theorem setBC_banks (v : Word) : (s.setBC v).banks = s.banks := rfl
@[simp] theorem setBC_mem (v : Word) : (s.setBC v).mem = s.mem := rfl
@[simp] theorem setBC_params (v : Word) : (s.setBC v).params = s.params := rfl
@[simp] theorem setBC_envQueue (v : Word) : (s.setBC v).envQueue = s.envQueue := rfl
@[simp] theorem setBC_stepIndex (v : Word) : (s.setBC v).stepIndex = s.stepIndex := rfl
@[simp] theorem setBC_lastCycles (v : Word) : (s.setBC v).lastCycles = s.lastCycles := rfl

/-! `setDE` -/

@[simp] theorem setDE_a (v : Word) : (s.setDE v).a = s.a := rfl
@[simp] theorem setDE_f (v : Word) : (s.setDE v).f = s.f := rfl
@[simp] theorem setDE_b (v : Word) : (s.setDE v).b = s.b := rfl
@[simp] theorem setDE_c (v : Word) : (s.setDE v).c = s.c := rfl
@[simp] theorem setDE_d (v : Word) : (s.setDE v).d = hiByte v := rfl
@[simp] theorem setDE_e (v : Word) : (s.setDE v).e = loByte v := rfl
@[simp] theorem setDE_h (v : Word) : (s.setDE v).h = s.h := rfl
@[simp] theorem setDE_l (v : Word) : (s.setDE v).l = s.l := rfl
@[simp] theorem setDE_pc (v : Word) : (s.setDE v).pc = s.pc := rfl
@[simp] theorem setDE_sp (v : Word) : (s.setDE v).sp = s.sp := rfl
@[simp] theorem setDE_ime (v : Word) : (s.setDE v).ime = s.ime := rfl
@[simp] theorem setDE_halted (v : Word) : (s.setDE v).halted = s.halted := rfl
@[simp] theorem setDE_inService (v : Word) : (s.setDE v).inService = s.inService := rfl
@[simp] theorem setDE_divAcc (v : Word) : (s.setDE v).divAcc = s.divAcc := rfl
@[simp] theorem setDE_timaAcc (v : Word) : (s.setDE v).timaAcc = s.timaAcc := rfl
@[simp] theorem setDE_bootDone (v : Word) : (s.setDE v).bootDone = s.bootDone := rfl
@[simp] theorem setDE_banks (v : Word) : (s.setDE v).banks = s.banks := rfl
@[simp] theorem setDE_mem (v : Word) : (s.setDE v).mem = s.mem := rfl
@[simp] theorem setDE_params (v : Word) : (s.setDE v).params = s.params := rfl
@[simp] theorem setDE_envQueue (v : Word) : (s.setDE v).envQueue = s.envQueue := rfl
@[simp] theorem setDE_stepIndex (v : Word) : (s.setDE v).stepIndex = s.stepIndex := rfl
@[simp] theorem setDE_lastCycles (v : Word) : (s.setDE v).lastCycles = s.lastCycles := rfl

/-! `setHL` -/

@[simp] theorem setHL_a (v : Word) : (s.setHL v).a = s.a := rfl
@[simp] theorem setHL_f (v : Word) : (s.setHL v).f = s.f := rfl
@[simp] theorem setHL_b (v : Word) : (s.setHL v).b = s.b := rfl
@[simp] theorem setHL_c (v : Word) : (s.setHL v).c = s.c := rfl
@[simp] theorem setHL_d (v : Word) : (s.setHL v).d = s.d := rfl
@[simp] theorem setHL_e (v : Word) : (s.setHL v).e = s.e := rfl
@[simp] theorem setHL_h (v : Word) : (s.setHL v).h = hiByte v := rfl
@[simp] theorem setHL_l (v : Word) : (s.setHL v).l = loByte v := rfl
@[simp] theorem setHL_pc (v : Word) : (s.setHL v).pc = s.pc := rfl
@[simp] theorem setHL_sp (v : Word) : (s.setHL v).sp = s.sp := rfl
@[simp] theorem setHL_ime (v : Word) : (s.setHL v).ime = s.ime := rfl
@[simp] theorem setHL_halted (v : Word) : (s.setHL v).halted = s.halted := rfl
@[simp] theorem setHL_inService (v : Word) : (s.setHL v).inService = s.inService := rfl
@[simp] theorem setHL_divAcc (v : Word) : (s.setHL v).divAcc = s.divAcc := rfl
@[simp] theorem setHL_timaAcc (v : Word) : (s.setHL v).timaAcc = s.timaAcc := rfl
@[simp] theorem setHL_bootDone (v : Word) : (s.setHL v).bootDone = s.bootDone := rfl
@[simp] theorem setHL_banks (v : Word) : (s.setHL v).banks = s.banks := rfl
@[simp] theorem setHL_mem (v : Word) : (s.setHL v).mem = s.mem := rfl
@[simp] theorem setHL_params (v : Word) : (s.setHL v).params = s.params := rfl
@[simp] theorem setHL_envQueue (v : Word) : (s.setHL v).envQueue = s.envQueue := rfl
@[simp] theorem setHL_stepIndex (v : Word) : (s.setHL v).stepIndex = s.stepIndex := rfl
@[simp] theorem setHL_lastCycles (v : Word) : (s.setHL v).lastCycles = s.lastCycles := rfl

/-! `setAF` -/

@[simp] theorem setAF_a (v : Word) : (s.setAF v).a = hiByte v := rfl
@[simp] theorem setAF_f (v : Word) : (s.setAF v).f = loByte v &&& 0xF0 := rfl
@[simp] theorem setAF_b (v : Word) : (s.setAF v).b = s.b := rfl
@[simp] theorem setAF_c (v : Word) : (s.setAF v).c = s.c := rfl
@[simp] theorem setAF_d (v : Word) : (s.setAF v).d = s.d := rfl
@[simp] theorem setAF_e (v : Word) : (s.setAF v).e = s.e := rfl
@[simp] theorem setAF_h (v : Word) : (s.setAF v).h = s.h := rfl
@[simp] theorem setAF_l (v : Word) : (s.setAF v).l = s.l := rfl
@[simp] theorem setAF_pc (v : Word) : (s.setAF v).pc = s.pc := rfl
@[simp] theorem setAF_sp (v : Word) : (s.setAF v).sp = s.sp := rfl
@[simp] theorem setAF_ime (v : Word) : (s.setAF v).ime = s.ime := rfl
@[simp] theorem setAF_halted (v : Word) : (s.setAF v).halted = s.halted := rfl
@[simp] theorem setAF_inService (v : Word) : (s.setAF v).inService = s.inService := rfl
@[simp] theorem setAF_divAcc (v : Word) : (s.setAF v).divAcc = s.divAcc := rfl
@[simp] theorem setAF_timaAcc (v : Word) : (s.setAF v).timaAcc = s.timaAcc := rfl
@[simp] theorem setAF_bootDone (v : Word) : (s.setAF v).bootDone = s.bootDone := rfl
@[simp] theorem setAF_banks (v : Word) : (s.setAF v).banks = s.banks := rfl
@[simp] theorem setAF_mem (v : Word) : (s.setAF v).mem = s.mem := rfl
@[simp] theorem setAF_params (v : Word) : (s.setAF v).params = s.params := rfl
@[simp] theorem setAF_envQueue (v : Word) : (s.setAF v).envQueue = s.envQueue := rfl
@[simp] theorem setAF_stepIndex (v : Word) : (s.setAF v).stepIndex = s.stepIndex := rfl
@[simp] theorem setAF_lastCycles (v : Word) : (s.setAF v).lastCycles = s.lastCycles := rfl

/-! `popped` -/

@[simp] theorem popped_a : (s.popped).a = s.a := rfl
@[simp] theorem popped_f : (s.popped).f = s.f := rfl
@[simp] theorem popped_b : (s.popped).b = s.b := rfl
@[simp] theorem popped_c : (s.popped).c = s.c := rfl
@[simp] theorem popped_d : (s.popped).d = s.d := rfl
@[simp] theorem popped_e : (s.popped).e = s.e := rfl
@[simp] theorem popped_h : (s.popped).h = s.h := rfl
@[simp] theorem popped_l : (s.popped).l = s.l := rfl
@[simp] theorem popped_pc : (s.popped).pc = s.pc := rfl
@[simp] theorem popped_sp : (s.popped).sp = s.sp + 2 := rfl
@[simp] theorem popped_ime : (s.popped).ime = s.ime := rfl
@[simp] theorem popped_halted : (s.popped).halted = s.halted := rfl
@[simp] theorem popped_inService : (s.popped).inService = s.inService := rfl
@[simp] theorem popped_divAcc : (s.popped).divAcc = s.divAcc := rfl
@[simp] theorem popped_timaAcc : (s.popped).timaAcc = s.timaAcc := rfl
@[simp] theorem popped_bootDone : (s.popped).bootDone = s.bootDone := rfl
@[simp] theorem popped_banks : (s.popped).banks = s.banks := rfl
@[simp] theorem popped_mem : (s.popped).mem = s.mem := rfl
@[simp] theorem popped_params : (s.popped).params = s.params := rfl
@[simp] theorem popped_envQueue : (s.popped).envQueue = s.envQueue := rfl
@[simp] theorem popped_stepIndex : (s.popped).stepIndex = s.stepIndex := rfl
@[simp] theorem popped_lastCycles : (s.popped).lastCycles = s.lastCycles := rfl

/-! `setReg`: the registers by their field, everything else kept -/

@[simp] theorem setReg_f (r : Reg8) (v : Byte) : (s.setReg r v).f = s.f := by cases r <;> rfl
@[simp] theorem setReg_pc (r : Reg8) (v : Byte) : (s.setReg r v).pc = s.pc := by cases r <;> rfl
@[simp] theorem setReg_sp (r : Reg8) (v : Byte) : (s.setReg r v).sp = s.sp := by cases r <;> rfl
@[simp] theorem setReg_ime (r : Reg8) (v : Byte) : (s.setReg r v).ime = s.ime := by cases r <;> rfl
@[simp] theorem setReg_halted (r : Reg8) (v : Byte) : (s.setReg r v).halted = s.halted := by cases r <;> rfl
@[simp] theorem setReg_inService (r : Reg8) (v : Byte) : (s.setReg r v).inService = s.inService := by cases r <;> rfl
@[simp] theorem setReg_divAcc (r : Reg8) (v : Byte) : (s.setReg r v).divAcc = s.divAcc := by cases r <;> rfl
@[simp] theorem setReg_timaAcc (r : Reg8) (v : Byte) : (s.setReg r v).timaAcc = s.timaAcc := by cases r <;> rfl
@[simp] theorem setReg_bootDone (r : Reg8) (v : Byte) : (s.setReg r v).bootDone = s.bootDone := by cases r <;> rfl
@[simp] theorem setReg_banks (r : Reg8) (v : Byte) : (s.setReg r v).banks = s.banks := by cases r <;> rfl
@[simp] theorem setReg_mem (r : Reg8) (v : Byte) : (s.setReg r v).mem = s.mem := by cases r <;> rfl
@[simp] theorem setReg_params (r : Reg8) (v : Byte) : (s.setReg r v).params = s.params := by cases r <;> rfl
@[simp] theorem setReg_envQueue (r : Reg8) (v : Byte) : (s.setReg r v).envQueue = s.envQueue := by cases r <;> rfl
@[simp] theorem setReg_stepIndex (r : Reg8) (v : Byte) : (s.setReg r v).stepIndex = s.stepIndex := by cases r <;> rfl
@[simp] theorem setReg_lastCycles (r : Reg8) (v : Byte) : (s.setReg r v).lastCycles = s.lastCycles := by cases r <;> rfl

@[simp] theorem reg_setReg_self (r : Reg8) (v : Byte) : (s.setReg r v).reg r = v := by cases r <;> rfl

theorem reg_setReg_other {q r : Reg8} (h : q ≠ r) (v : Byte) : (s.setReg r v).reg q = s.reg q := by
  cases q <;> cases r <;> first | rfl | exact absurd rfl h

@[simp] theorem reg_setFlags (x : Flags) (r : Reg8) : (s.setFlags x).reg r = s.reg r := by cases r <;> rfl

@[simp] theorem reg_setCell (x : Loc) (v : Byte) (r : Reg8) : (s.setCell x v).reg r = s.reg r := by cases r <;> rfl

@[simp] theorem reg_popped (r : Reg8) : s.popped.reg r = s.reg r := by cases r <;> rfl

@[simp] theorem setFlags_hl (x : Flags) : (s.setFlags x).hl = s.hl := rfl

@[simp] theorem setCell_hl (x : Loc) (v : Byte) : (s.setCell x v).hl = s.hl := rfl

end Sys2Proof.Machine.State
end

