-- ==== Sys2Proof/Laws/Bus.lean ====
section
/-! SUPPORT. Laws of the storage cells, of resolution and of the bus transactions: what each can do, said once. -/

namespace Sys2Proof.Machine

/-! ### Cells -/

theorem Buffer.index_inj {x y : Buffer} (h : x.index = y.index) : x = y := by
  cases x <;> cases y <;> first | rfl | exact absurd h (by decide)

theorem Buffer.index_lt (x : Buffer) : x.index < 16 := by cases x <;> decide

theorem Loc.exists_iff (p : Config.Params) (x : Loc) :
    x.exists_ p = true ↔ x.bank < x.buf.banks p ∧ x.off < x.buf.size p := by
  rw [Loc.exists_, Bool.and_eq_true, decide_eq_true_eq, decide_eq_true_eq]

/-- Two cells of offsets inside a buffer never share a key. -/
theorem Loc.key_inj {x y : Loc} (hx : x.off < 0x4000) (hy : y.off < 0x4000) (h : x.key = y.key) : x = y := by
  obtain ⟨bx, kx, ox⟩ := x
  obtain ⟨b, k, o⟩ := y
  have h1 := bx.index_lt
  have h2 := b.index_lt
  simp only [Loc.key] at h hx hy
  have ho : ox = o := by omega
  have hi : bx.index = b.index := by omega
  have hk : kx = k := by omega
  rw [ho, hk, Buffer.index_inj hi]

theorem State.cell_setCell_self (s : State) (x : Loc) (v : Byte) : (s.setCell x v).cell x = v := by
  simp [State.cell]

theorem State.cell_setCell_other (s : State) {x y : Loc} (v : Byte) (hx : x.off < 0x4000) (hy : y.off < 0x4000)
    (h : y ≠ x) : (s.setCell x v).cell y = s.cell y := by
  simp only [State.cell, State.setCell_mem]
  exact Memory.read_write_other _ _ fun hk => h (Loc.key_inj hy hx hk)

theorem State.wf_setCell {s : State} (h : s.mem.wf = true) (x : Loc) (v : Byte) : (s.setCell x v).mem.wf = true :=
  Memory.wf_write h _ _

/-! ### Regions -/

/-- The first address of a region, and the first after it (R61). -/
def Region.first : Region → Nat
  | .ROM0 => 0 | .ROMX => 0x4000 | .VRAM => 0x8000 | .ERAM => 0xA000 | .WRAM0 => 0xC000 | .WRAMX => 0xD000
  | .ECHO0 => 0xE000 | .ECHOX => 0xF000 | .OAM => 0xFE00 | .UNUSABLE => 0xFEA0 | .IO => 0xFF00 | .HRAM => 0xFF80
  | .IE => 0xFFFF

def Region.limit : Region → Nat
  | .ROM0 => 0x4000 | .ROMX => 0x8000 | .VRAM => 0xA000 | .ERAM => 0xC000 | .WRAM0 => 0xD000 | .WRAMX => 0xE000
  | .ECHO0 => 0xF000 | .ECHOX => 0xFE00 | .OAM => 0xFEA0 | .UNUSABLE => 0xFF00 | .IO => 0xFF80 | .HRAM => 0xFFFF
  | .IE => 0x10000

theorem region_range (a : Word) : (region a).first ≤ a.toNat ∧ a.toNat < (region a).limit := by
  have ha := a.isLt
  generalize h : region a = r
  unfold region at h
  dsimp only at h
  generalize a.toNat = n at *
  by_cases h0 : n < 0x4000
  · rw [if_pos h0] at h; subst h; exact ⟨Nat.zero_le _, h0⟩
  rw [if_neg h0] at h
  by_cases h1 : n < 0x8000
  · rw [if_pos h1] at h; subst h; exact ⟨not_lt.1 h0, h1⟩
  rw [if_neg h1] at h
  by_cases h2 : n < 0xA000
  · rw [if_pos h2] at h; subst h; exact ⟨not_lt.1 h1, h2⟩
  rw [if_neg h2] at h
  by_cases h3 : n < 0xC000
  · rw [if_pos h3] at h; subst h; exact ⟨not_lt.1 h2, h3⟩
  rw [if_neg h3] at h
  by_cases h4 : n < 0xD000
  · rw [if_pos h4] at h; subst h; exact ⟨not_lt.1 h3, h4⟩
  rw [if_neg h4] at h
  by_cases h5 : n < 0xE000
  · rw [if_pos h5] at h; subst h; exact ⟨not_lt.1 h4, h5⟩
  rw [if_neg h5] at h
  by_cases h6 : n < 0xF000
  · rw [if_pos h6] at h; subst h; exact ⟨not_lt.1 h5, h6⟩
  rw [if_neg h6] at h
  by_cases h7 : n < 0xFE00
  · rw [if_pos h7] at h; subst h; exact ⟨not_lt.1 h6, h7⟩
  rw [if_neg h7] at h
  by_cases h8 : n < 0xFEA0
  · rw [if_pos h8] at h; subst h; exact ⟨not_lt.1 h7, h8⟩
  rw [if_neg h8] at h
  by_cases h9 : n < 0xFF00
  · rw [if_pos h9] at h; subst h; exact ⟨not_lt.1 h8, h9⟩
  rw [if_neg h9] at h
  by_cases h10 : n < 0xFF80
  · rw [if_pos h10] at h; subst h; exact ⟨not_lt.1 h9, h10⟩
  rw [if_neg h10] at h
  by_cases h11 : n < 0xFFFF
  · rw [if_pos h11] at h; subst h; exact ⟨not_lt.1 h10, h11⟩
  rw [if_neg h11] at h
  subst h
  exact ⟨not_lt.1 h11, ha⟩

theorem region_eq {a : Word} {r : Region} (h1 : r.first ≤ a.toNat) (h2 : a.toNat < r.limit) : region a = r := by
  have h := region_range a
  revert h
  generalize region a = q
  intro h
  cases q <;> cases r <;> simp only [Region.first, Region.limit] at h h1 h2 <;> first | rfl | omega

/-- An address resolves to an offset below 0x4000: no two cells the bus reaches share a key. -/
theorem State.resolve_off_lt {s : State} {a : Word} {x : Loc} (h : s.resolve a = some x) : x.off < 0x4000 := by
  have hr := region_range a
  unfold State.resolve at h
  dsimp only at h
  revert h hr
  cases region a <;> intro h hr <;> simp only [Region.first, Region.limit] at hr <;> dsimp only at h
  · split at h <;> cases h <;> exact hr.2
  all_goals first
    | (cases h; dsimp only; omega)
    | exact absurd h (by simp)

theorem State.wramSel_range (s : State) : 1 ≤ s.wramSel ∧ s.wramSel ≤ 7 := by
  unfold State.wramSel
  split
  · rename_i b _
    exact ⟨Nat.le_add_left _ _, by have := b.isLt; omega⟩
  · rename_i id _
    exact ⟨Nat.le_add_left _ _, by have := (Config.wramSelect id s).isLt; omega⟩

/-- Resolution reads the parameters, the bank scalars and the boot latch, and nothing else when the second work-RAM bank
is constant. -/
theorem State.resolve_congr {s t : State} {a : Word} {b : Fin 7} (hw : s.params.wramSelect = .fixed b)
    (hp : t.params = s.params) (hb : t.banks = s.banks) (hd : t.bootDone = s.bootDone) :
    t.resolve a = s.resolve a := by
  simp [State.resolve, State.wramSel, hp, hb, hd, hw]

theorem State.valid_congr {s t : State} {a : Word} (hp : t.params = s.params) (hb : t.banks = s.banks) :
    t.valid a = s.valid a := by
  simp [State.valid, hp, hb]

@[simp] theorem State.valid_setCell (s : State) (x : Loc) (v : Byte) (a : Word) :
    (s.setCell x v).valid a = s.valid a := rfl

theorem State.resolve_setCell {s : State} {b : Fin 7} (hw : s.params.wramSelect = .fixed b) (x : Loc) (v : Byte)
    (a : Word) : (s.setCell x v).resolve a = s.resolve a :=
  State.resolve_congr (t := s.setCell x v) hw rfl rfl rfl

/-- An unusable address is the only one without a cell. -/
theorem State.resolve_eq_none_iff (s : State) (a : Word) : s.resolve a = none ↔ region a = .UNUSABLE := by
  unfold State.resolve
  dsimp only
  split <;> rename_i hreg
  · split <;> simp [hreg]
  all_goals simp [hreg]

theorem State.valid_imp_resolve {s : State} {a : Word} (h : s.valid a = true) : ∃ x, s.resolve a = some x := by
  cases hr : s.resolve a with
  | some x => exact ⟨x, rfl⟩
  | none =>
    rw [State.resolve_eq_none_iff] at hr
    simp [State.valid, hr] at h

/-! ### Reads -/

theorem State.read8_of_resolve {s : State} {a : Word} {x : Loc} {prog : Bool} (hv : s.valid a = true)
    (hj : ¬ (prog = true ∧ a = Config.JOYP)) (hx : s.resolve a = some x) : s.read8 a prog = s.cell x := by
  rw [State.read8, if_neg (by simp [hv]), if_neg hj, hx]

theorem State.read8_rejected {s : State} {a : Word} (prog : Bool) (h : s.valid a = false) :
    s.read8 a prog = Config.sentinel := by
  simp [State.read8, h]

/-- An internal read of a register of the I/O page reads its byte. -/
theorem State.read8_io (s : State) {a : Word} {x : Loc} (hv : s.valid a = true) (hx : s.resolve a = some x) :
    s.read8 a false = s.cell x := State.read8_of_resolve hv (by simp) hx

/-! ### What the parts of a write leave alone -/

theorem State.dmaFrom_eq (s : State) (v : Byte) (i n : Nat) :
    s.dmaFrom v i n = { s with mem := (s.dmaFrom v i n).mem } := by
  induction n generalizing s i with
  | zero => rfl
  | succ n ih => rw [State.dmaFrom, ih]; rfl

theorem State.wf_dmaFrom {s : State} (h : s.mem.wf = true) (v : Byte) (i n : Nat) : (s.dmaFrom v i n).mem.wf = true := by
  induction n generalizing s i with
  | zero => exact h
  | succ n ih => exact ih (State.wf_setCell h _ _) _

/-- The copy changes no cell outside the bytes of the sprite table it writes. -/
theorem State.cell_dmaFrom_other (s : State) (v : Byte) {i n : Nat} {x : Loc} (hn : i + n ≤ 160) (hx : x.off < 0x4000)
    (h : ∀ j, j < 160 → x ≠ ⟨.oam, 0, j⟩) : (s.dmaFrom v i n).cell x = s.cell x := by
  induction n generalizing s i with
  | zero => rfl
  | succ n ih =>
    rw [State.dmaFrom, ih _ (by omega)]
    exact State.cell_setCell_other _ _ (by simp only; omega) hx (h i (by omega))

theorem State.dmaTrigger_eq (s : State) (a : Word) (v : Byte) :
    s.dmaTrigger a v = { s with mem := (s.dmaTrigger a v).mem } := by
  unfold State.dmaTrigger
  split
  · exact State.dmaFrom_eq s v _ _
  · rfl

theorem State.bankIntercept_eq (s : State) (a : Word) (v : Byte) :
    s.bankIntercept a v = { s with banks := (s.bankIntercept a v).banks } := by
  unfold State.bankIntercept
  split
  · rfl
  · split <;> rfl

theorem State.bankIntercept_noController {s : State} (h : s.params.controller = .noController) (a : Word) (v : Byte) :
    s.bankIntercept a v = s := by
  simp [State.bankIntercept, h]

theorem State.bootLatch_eq (s : State) (a : Word) (v : Byte) :
    s.bootLatch a v = { s with bootDone := s.bootDone || (decide (a = Config.BOOT) && decide (v ≠ 0)) } := by
  unfold State.bootLatch
  split
  · rename_i h
    rw [decide_eq_true h.1, decide_eq_true h.2]
    simp
  · rename_i h
    by_cases ha : a = Config.BOOT
    · simp [show v = 0 from Classical.byContradiction fun hv => h ⟨ha, hv⟩]
    · rw [decide_eq_false ha]
      simp

theorem State.store_eq (s : State) (a : Word) (v : Byte) : s.store a v = { s with mem := (s.store a v).mem } := by
  unfold State.store
  split <;> rfl

theorem State.beforeStore_eq (s : State) (a : Word) (v : Byte) :
    s.beforeStore a v =
      { s with mem := (s.beforeStore a v).mem, banks := (s.bankIntercept a v).banks
               bootDone := s.bootDone || (decide (a = Config.BOOT) && decide (v ≠ 0)) } := by
  unfold State.beforeStore
  rw [State.bootLatch_eq, State.dmaTrigger_eq, State.bankIntercept_eq]

/-- Everything a write can do: bytes of storage, the bank scalars, the boot latch (R74). -/
theorem State.write8_eq (s : State) (a : Word) (v : Byte) (prog : Bool) :
    s.write8 a v prog =
      { s with mem := (s.write8 a v prog).mem, banks := (s.write8 a v prog).banks
               bootDone := (s.write8 a v prog).bootDone } := by
  unfold State.write8
  split
  · rfl
  · rw [State.store_eq, State.beforeStore_eq]

theorem State.write8_rejected {s : State} {a : Word} (v : Byte) (prog : Bool) (h : s.valid a = false) :
    s.write8 a v prog = s := by
  simp [State.write8, h]

theorem State.wf_write8 {s : State} (h : s.mem.wf = true) (a : Word) (v : Byte) (prog : Bool) :
    (s.write8 a v prog).mem.wf = true := by
  unfold State.write8
  split
  · exact h
  · have h1 : (s.bankIntercept a v).mem.wf = true := by rw [State.bankIntercept_eq]; exact h
    have h2 : ((s.bankIntercept a v).dmaTrigger a v).mem.wf = true := by
      unfold State.dmaTrigger
      split
      · exact State.wf_dmaFrom h1 _ _ _
      · exact h1
    have h3 : (s.beforeStore a v).mem.wf = true := by
      unfold State.beforeStore
      rw [State.bootLatch_eq]
      exact h2
    unfold State.store
    split
    · exact State.wf_setCell h3 _ _
    · exact h3

/-- The bank scalars after a write: the controller's, unless the address is rejected. -/
theorem State.write8_banks_noController {s : State} (h : s.params.controller = .noController) (a : Word) (v : Byte)
    (prog : Bool) : (s.write8 a v prog).banks = s.banks := by
  unfold State.write8
  split
  · rfl
  · rw [State.store_eq, State.beforeStore_eq, State.bankIntercept_noController h]

/-- The boot latch after a write that is not rejected. -/
theorem State.write8_bootDone {s : State} {a : Word} (v : Byte) (prog : Bool) :
    (s.write8 a v prog).bootDone =
      (s.bootDone || (s.valid a && decide (a = Config.BOOT) && decide (v ≠ 0))) := by
  unfold State.write8
  split
  · rename_i h
    simp [h]
  · rename_i h
    rw [State.store_eq, State.beforeStore_eq]
    simp [Bool.eq_true_of_not_eq_false h]

/-- An ordinary write, with no bank controller: one cell. -/
theorem State.write8_plain {s : State} {a : Word} {x : Loc} (v : Byte) (prog : Bool)
    (hc : s.params.controller = .noController) (hv : s.valid a = true) (hd : a ≠ Config.DMA) (hb : a ≠ Config.BOOT)
    (hx : s.resolve a = some x) : s.write8 a v prog = s.setCell x (storedValue a v prog) := by
  have h : s.beforeStore a v = s := by
    rw [State.beforeStore, State.bankIntercept_noController hc, State.dmaTrigger, if_neg hd, State.bootLatch,
      if_neg fun h => hb h.1]
  rw [State.write8, if_neg (by simp [hv]), h, State.store, hx]

/-- The cells a write leaves alone: all but the one it stores to and, at the DMA register, the sprite table. -/
theorem State.cell_write8_other {s : State} {a : Word} {v : Byte} {prog : Bool} {x : Loc} (hx : x.off < 0x4000)
    (h : s.valid a = true → (s.beforeStore a v).resolve a ≠ some x ∧
      (a = Config.DMA → ∀ j, j < 160 → x ≠ ⟨.oam, 0, j⟩)) :
    (s.write8 a v prog).cell x = s.cell x := by
  unfold State.write8
  split
  · rfl
  · rename_i hv
    obtain ⟨hne, hdma⟩ := h (Bool.eq_true_of_not_eq_false hv)
    have hbefore : (s.beforeStore a v).cell x = s.cell x := by
      unfold State.beforeStore
      rw [State.bootLatch_eq]
      change ((s.bankIntercept a v).dmaTrigger a v).cell x = s.cell x
      have hi : (s.bankIntercept a v).cell x = s.cell x := by rw [State.bankIntercept_eq]; rfl
      unfold State.dmaTrigger
      split
      · rename_i ha
        exact (State.cell_dmaFrom_other _ _ (by decide) hx (hdma ha)).trans hi
      · exact hi
    unfold State.store
    split
    · rename_i y hy
      rw [State.cell_setCell_other _ _ (State.resolve_off_lt hy) hx fun hxy => hne (by rw [hy, hxy])]
      exact hbefore
    · exact hbefore

/-- The cell a write stores to. -/
theorem State.cell_write8_self {s : State} {a : Word} {v : Byte} {prog : Bool} {x : Loc} (hv : s.valid a = true)
    (hx : (s.beforeStore a v).resolve a = some x) : (s.write8 a v prog).cell x = storedValue a v prog := by
  rw [State.write8, if_neg (by simp [hv]), State.store, hx]
  exact State.cell_setCell_self _ _ _

/-! ### The registers of the I/O page and `IE`: cells that no bank, mirror or overlay moves (R37, R68) -/

/-- The cell of an address of the I/O page. -/
theorem State.resolve_io (s : State) {a : Word} (h : region a = .IO) : s.resolve a = some ⟨.io, 0, a.toNat - 0xFF00⟩ := by
  simp [State.resolve, h]

theorem State.resolve_ie (s : State) {a : Word} (h : region a = .IE) : s.resolve a = some ⟨.iereg, 0, 0⟩ := by
  simp [State.resolve, h]

/-- An address that is never rejected and has the same cell in every state. -/
structure RegisterCell (a : Word) (x : Loc) : Prop where
  valid : ∀ s : State, s.valid a = true
  resolve : ∀ s : State, s.resolve a = some x

theorem registerCell_io {a : Word} (h : region a = .IO) : RegisterCell a ⟨.io, 0, a.toNat - 0xFF00⟩ :=
  ⟨fun s => by simp [State.valid, h], fun s => s.resolve_io h⟩

theorem registerCell_ie {a : Word} (h : region a = .IE) : RegisterCell a ⟨.iereg, 0, 0⟩ :=
  ⟨fun s => by simp [State.valid, h], fun s => s.resolve_ie h⟩

theorem RegisterCell.read {a : Word} {x : Loc} (h : RegisterCell a x) (s : State) : s.read8 a false = s.cell x :=
  State.read8_io s (h.valid s) (h.resolve s)

/-- A register written is read back by an internal read, whatever the bank controller. -/
theorem RegisterCell.read_write {a : Word} {x : Loc} (h : RegisterCell a x) (s : State) (v : Byte) (prog : Bool) :
    (s.write8 a v prog).read8 a false = storedValue a v prog := by
  rw [h.read, State.cell_write8_self (h.valid s) (h.resolve _)]

/-- A write to another register, not the DMA register, leaves it. -/
theorem RegisterCell.read_write_other {a b : Word} {x y : Loc} (h : RegisterCell a x) (g : RegisterCell b y)
    (hne : x ≠ y) (hd : b ≠ Config.DMA) (s : State) (v : Byte) (prog : Bool) :
    (s.write8 b v prog).read8 a false = s.read8 a false := by
  rw [h.read, h.read, State.cell_write8_other (State.resolve_off_lt (h.resolve s)) fun _ => ⟨?_, fun hb => absurd hb hd⟩]
  rw [g.resolve]
  exact fun he => hne (Option.some.inj he).symm

theorem registerCell_DIV : RegisterCell Config.DIV ⟨.io, 0, 0x04⟩ := registerCell_io (by decide)
theorem registerCell_TIMA : RegisterCell Config.TIMA ⟨.io, 0, 0x05⟩ := registerCell_io (by decide)
theorem registerCell_TMA : RegisterCell Config.TMA ⟨.io, 0, 0x06⟩ := registerCell_io (by decide)
theorem registerCell_TAC : RegisterCell Config.TAC ⟨.io, 0, 0x07⟩ := registerCell_io (by decide)
theorem registerCell_IF : RegisterCell Config.IF ⟨.io, 0, 0x0F⟩ := registerCell_io (by decide)
theorem registerCell_LY : RegisterCell Config.LY ⟨.io, 0, 0x44⟩ := registerCell_io (by decide)
theorem registerCell_BOOT : RegisterCell Config.BOOT ⟨.io, 0, 0x50⟩ := registerCell_io (by decide)
theorem registerCell_JOYP : RegisterCell Config.JOYP ⟨.io, 0, 0x00⟩ := registerCell_io (by decide)
theorem registerCell_IE : RegisterCell Config.IE ⟨.iereg, 0, 0⟩ := registerCell_ie (by decide)

/-! ### The fields a write never changes -/

section
variable (s : State) (w : Word) (v : Byte) (prog : Bool)

@[simp] theorem State.write8_a : (s.write8 w v prog).a = s.a := by rw [State.write8_eq]
@[simp] theorem State.write8_f : (s.write8 w v prog).f = s.f := by rw [State.write8_eq]
@[simp] theorem State.write8_b : (s.write8 w v prog).b = s.b := by rw [State.write8_eq]
@[simp] theorem State.write8_c : (s.write8 w v prog).c = s.c := by rw [State.write8_eq]
@[simp] theorem State.write8_d : (s.write8 w v prog).d = s.d := by rw [State.write8_eq]
@[simp] theorem State.write8_e : (s.write8 w v prog).e = s.e := by rw [State.write8_eq]
@[simp] theorem State.write8_h : (s.write8 w v prog).h = s.h := by rw [State.write8_eq]
@[simp] theorem State.write8_l : (s.write8 w v prog).l = s.l := by rw [State.write8_eq]
@[simp] theorem State.write8_pc : (s.write8 w v prog).pc = s.pc := by rw [State.write8_eq]
@[simp] theorem State.write8_sp : (s.write8 w v prog).sp = s.sp := by rw [State.write8_eq]
@[simp] theorem State.write8_ime : (s.write8 w v prog).ime = s.ime := by rw [State.write8_eq]
@[simp] theorem State.write8_halted : (s.write8 w v prog).halted = s.halted := by rw [State.write8_eq]
@[simp] theorem State.write8_inService : (s.write8 w v prog).inService = s.inService := by rw [State.write8_eq]
@[simp] theorem State.write8_divAcc : (s.write8 w v prog).divAcc = s.divAcc := by rw [State.write8_eq]
@[simp] theorem State.write8_timaAcc : (s.write8 w v prog).timaAcc = s.timaAcc := by rw [State.write8_eq]
@[simp] theorem State.write8_params : (s.write8 w v prog).params = s.params := by rw [State.write8_eq]
@[simp] theorem State.write8_envQueue : (s.write8 w v prog).envQueue = s.envQueue := by rw [State.write8_eq]
@[simp] theorem State.write8_stepIndex : (s.write8 w v prog).stepIndex = s.stepIndex := by rw [State.write8_eq]
@[simp] theorem State.write8_lastCycles : (s.write8 w v prog).lastCycles = s.lastCycles := by rw [State.write8_eq]

@[simp] theorem State.reg_write8 (r : Reg8) : (s.write8 w v prog).reg r = s.reg r := by cases r <;> simp [State.reg]

@[simp] theorem State.write8_hl : (s.write8 w v prog).hl = s.hl := by simp [State.hl]

end

end Sys2Proof.Machine
end

