-- ==== Sys2Proof/Laws/Decode.lean ====
section
/-! SUPPORT. Laws of the decoder: on three bytes it never fails, and what it reads is the instruction `decodeAt` gives. -/

namespace Sys2Proof.Laws

/-- A property of every opcode byte, from its 256 values. -/
theorem forall_byte {p : Byte → Prop} (h : ∀ n : Nat, n < 256 → p (BitVec.ofNat 8 n)) (a : Byte) : p a := by
  have ha := h a.toNat a.isLt
  rwa [BitVec.ofNat_toNat, BitVec.setWidth_eq] at ha

/-- Decoding at least three bytes: the instruction at the head, and the bytes after its length. -/
theorem decode_three (a b c : Byte) (rest : List Byte) :
    decode (a :: b :: c :: rest) = .ok (decodeAt a b c, (a :: b :: c :: rest).drop (max 1 (lengthOf a))) := by
  refine forall_byte (p := fun a => decode (a :: b :: c :: rest) =
    .ok (decodeAt a b c, (a :: b :: c :: rest).drop (max 1 (lengthOf a)))) ?_ a
  intro n hn
  interval_cases n <;> exact rfl

/-- What is decoded begins with its opcode byte. -/
theorem decodeAt_opcode (a b c : Byte) : (decodeAt a b c).opcode = a := by
  refine forall_byte (p := fun a => (decodeAt a b c).opcode = a) ?_ a
  have hx : ∀ b : Byte, (decodeExtended b).opcode = 0xCB := by decide +kernel
  intro n hn
  interval_cases n
  all_goals first | rfl | exact hx b

/-! ### The condition of the sixteen conditional transfers (R280) -/

theorem condition_jrCond (e : Byte) (cc : Cond) : (Instr.jrCond e cc).condition = some cc := by
  cases cc
  · exact (by decide : conditionOf 0x20 = some .nz)
  · exact (by decide : conditionOf 0x28 = some .z)
  · exact (by decide : conditionOf 0x30 = some .nc)
  · exact (by decide : conditionOf 0x38 = some .c)

theorem condition_jpCond (nn : Word) (cc : Cond) : (Instr.jpCond nn cc).condition = some cc := by
  cases cc
  · exact (by decide : conditionOf 0xC2 = some .nz)
  · exact (by decide : conditionOf 0xCA = some .z)
  · exact (by decide : conditionOf 0xD2 = some .nc)
  · exact (by decide : conditionOf 0xDA = some .c)

theorem condition_callCond (nn : Word) (cc : Cond) : (Instr.callCond nn cc).condition = some cc := by
  cases cc
  · exact (by decide : conditionOf 0xC4 = some .nz)
  · exact (by decide : conditionOf 0xCC = some .z)
  · exact (by decide : conditionOf 0xD4 = some .nc)
  · exact (by decide : conditionOf 0xDC = some .c)

theorem condition_retCond (cc : Cond) : (Instr.retCond cc).condition = some cc := by
  cases cc <;> decide

end Sys2Proof.Laws
end

