-- ==== Sys2Proof/Laws/Shape.lean ====
section
/-! SUPPORT. Every instruction is one of the families of Decode.lean or one of the single rows: the case analysis over
the opcode table that a claim about all instructions goes through. -/

namespace Sys2Proof.Laws

/-- The illegal opcodes (R132). -/
def illegalRows : List (Instr × Byte) :=
  [(.illegal_D3, 0xD3), (.illegal_DB, 0xDB), (.illegal_DD, 0xDD), (.illegal_E3, 0xE3), (.illegal_E4, 0xE4), (.illegal_EB, 0xEB),
    (.illegal_EC, 0xEC), (.illegal_ED, 0xED), (.illegal_F4, 0xF4), (.illegal_FC, 0xFC), (.illegal_FD, 0xFD)]

/-- The form of an instruction, by the patterns of R130 and R131. -/
inductive Shape : Instr → Prop where
  | ldFrom (r : Reg8) (o : Operand8) : Shape (.ld (.reg r) o)
  | ldStore (r : Reg8) : Shape (.ld .atHL (.reg r))
  | ldImm (n : Byte) (o : Operand8) : Shape (.ldImm n o)
  | inc (o : Operand8) : Shape (.inc o)
  | dec (o : Operand8) : Shape (.dec o)
  | ldPair (nn : Word) (p : Pair) : Shape (.ldPair nn p)
  | addHL (p : Pair) : Shape (.addHL p)
  | incPair (p : Pair) : Shape (.incPair p)
  | decPair (p : Pair) : Shape (.decPair p)
  | storeA (i : Indirect) : Shape (.storeA i)
  | loadA (i : Indirect) : Shape (.loadA i)
  | alu (op : AluOp) (o : Operand8) : Shape (.alu op o)
  | aluImm (n : Byte) (op : AluOp) : Shape (.aluImm n op)
  | jrCond (e : Byte) (cc : Cond) : Shape (.jrCond e cc)
  | jpCond (nn : Word) (cc : Cond) : Shape (.jpCond nn cc)
  | callCond (nn : Word) (cc : Cond) : Shape (.callCond nn cc)
  | retCond (cc : Cond) : Shape (.retCond cc)
  | push (p : StackPair) : Shape (.push p)
  | pop (p : StackPair) : Shape (.pop p)
  | rst (t : Idx3) : Shape (.rst t)
  | rot (op : RotOp) (o : Operand8) : Shape (.rot op o)
  | bit (b : Idx3) (o : Operand8) : Shape (.bit b o)
  | res (b : Idx3) (o : Operand8) : Shape (.res b o)
  | set (b : Idx3) (o : Operand8) : Shape (.set b o)
  | nop : Shape .nop
  | rlca : Shape .rlca
  | ld_atNN_SP (nn : Word) : Shape (.ld_atNN_SP nn)
  | rrca : Shape .rrca
  | stop (n : Byte) : Shape (.stop n)
  | rla : Shape .rla
  | jr (e : Byte) : Shape (.jr e)
  | rra : Shape .rra
  | daa : Shape .daa
  | cpl : Shape .cpl
  | scf : Shape .scf
  | ccf : Shape .ccf
  | halt : Shape .halt
  | jp (nn : Word) : Shape (.jp nn)
  | ret : Shape .ret
  | prefixCB (op2 : Byte) : Shape (.prefixCB op2)
  | call (nn : Word) : Shape (.call nn)
  | reti : Shape .reti
  | ldh_atN_A (n : Byte) : Shape (.ldh_atN_A n)
  | ldh_atC_A : Shape .ldh_atC_A
  | add_SP_e (e : Byte) : Shape (.add_SP_e e)
  | jp_HL : Shape .jp_HL
  | ld_atNN_A (nn : Word) : Shape (.ld_atNN_A nn)
  | ldh_A_atN (n : Byte) : Shape (.ldh_A_atN n)
  | ldh_A_atC : Shape .ldh_A_atC
  | di : Shape .di
  | ld_HL_SPe (e : Byte) : Shape (.ld_HL_SPe e)
  | ld_SP_HL : Shape .ld_SP_HL
  | ld_A_atNN (nn : Word) : Shape (.ld_A_atNN nn)
  | ei : Shape .ei
  | illegal {i : Instr} {op : Byte} (h : (i, op) ∈ illegalRows) : Shape i

theorem shape (i : Instr) : Shape i :=
  match i with
  | .nop => .nop
  | .ld_BC_nn nn => .ldPair nn .bc
  | .ld_atBC_A => .storeA .bc
  | .inc_BC => .incPair .bc
  | .inc_B => .inc (.reg .b)
  | .dec_B => .dec (.reg .b)
  | .ld_B_n n => .ldImm n (.reg .b)
  | .rlca => .rlca
  | .ld_atNN_SP nn => .ld_atNN_SP nn
  | .add_HL_BC => .addHL .bc
  | .ld_A_atBC => .loadA .bc
  | .dec_BC => .decPair .bc
  | .inc_C => .inc (.reg .c)
  | .dec_C => .dec (.reg .c)
  | .ld_C_n n => .ldImm n (.reg .c)
  | .rrca => .rrca
  | .stop n => .stop n
  | .ld_DE_nn nn => .ldPair nn .de
  | .ld_atDE_A => .storeA .de
  | .inc_DE => .incPair .de
  | .inc_D => .inc (.reg .d)
  | .dec_D => .dec (.reg .d)
  | .ld_D_n n => .ldImm n (.reg .d)
  | .rla => .rla
  | .jr e => .jr e
  | .add_HL_DE => .addHL .de
  | .ld_A_atDE => .loadA .de
  | .dec_DE => .decPair .de
  | .inc_E => .inc (.reg .e)
  | .dec_E => .dec (.reg .e)
  | .ld_E_n n => .ldImm n (.reg .e)
  | .rra => .rra
  | .jr_NZ e => .jrCond e .nz
  | .ld_HL_nn nn => .ldPair nn .hl
  | .ld_atHLinc_A => .storeA .hlInc
  | .inc_HL => .incPair .hl
  | .inc_H => .inc (.reg .h)
  | .dec_H => .dec (.reg .h)
  | .ld_H_n n => .ldImm n (.reg .h)
  | .daa => .daa
  | .jr_Z e => .jrCond e .z
  | .add_HL_HL => .addHL .hl
  | .ld_A_atHLinc => .loadA .hlInc
  | .dec_HL => .decPair .hl
  | .inc_L => .inc (.reg .l)
  | .dec_L => .dec (.reg .l)
  | .ld_L_n n => .ldImm n (.reg .l)
  | .cpl => .cpl
  | .jr_NC e => .jrCond e .nc
  | .ld_SP_nn nn => .ldPair nn .sp
  | .ld_atHLdec_A => .storeA .hlDec
  | .inc_SP => .incPair .sp
  | .inc_atHL => .inc .atHL
  | .dec_atHL => .dec .atHL
  | .ld_atHL_n n => .ldImm n .atHL
  | .scf => .scf
  | .jr_C e => .jrCond e .c
  | .add_HL_SP => .addHL .sp
  | .ld_A_atHLdec => .loadA .hlDec
  | .dec_SP => .decPair .sp
  | .inc_A => .inc (.reg .a)
  | .dec_A => .dec (.reg .a)
  | .ld_A_n n => .ldImm n (.reg .a)
  | .ccf => .ccf
  | .ld_B_B => .ldFrom .b (.reg .b)
  | .ld_B_C => .ldFrom .b (.reg .c)
  | .ld_B_D => .ldFrom .b (.reg .d)
  | .ld_B_E => .ldFrom .b (.reg .e)
  | .ld_B_H => .ldFrom .b (.reg .h)
  | .ld_B_L => .ldFrom .b (.reg .l)
  | .ld_B_atHL => .ldFrom .b .atHL
  | .ld_B_A => .ldFrom .b (.reg .a)
  | .ld_C_B => .ldFrom .c (.reg .b)
  | .ld_C_C => .ldFrom .c (.reg .c)
  | .ld_C_D => .ldFrom .c (.reg .d)
  | .ld_C_E => .ldFrom .c (.reg .e)
  | .ld_C_H => .ldFrom .c (.reg .h)
  | .ld_C_L => .ldFrom .c (.reg .l)
  | .ld_C_atHL => .ldFrom .c .atHL
  | .ld_C_A => .ldFrom .c (.reg .a)
  | .ld_D_B => .ldFrom .d (.reg .b)
  | .ld_D_C => .ldFrom .d (.reg .c)
  | .ld_D_D => .ldFrom .d (.reg .d)
  | .ld_D_E => .ldFrom .d (.reg .e)
  | .ld_D_H => .ldFrom .d (.reg .h)
  | .ld_D_L => .ldFrom .d (.reg .l)
  | .ld_D_atHL => .ldFrom .d .atHL
  | .ld_D_A => .ldFrom .d (.reg .a)
  | .ld_E_B => .ldFrom .e (.reg .b)
  | .ld_E_C => .ldFrom .e (.reg .c)
  | .ld_E_D => .ldFrom .e (.reg .d)
  | .ld_E_E => .ldFrom .e (.reg .e)
  | .ld_E_H => .ldFrom .e (.reg .h)
  | .ld_E_L => .ldFrom .e (.reg .l)
  | .ld_E_atHL => .ldFrom .e .atHL
  | .ld_E_A => .ldFrom .e (.reg .a)
  | .ld_H_B => .ldFrom .h (.reg .b)
  | .ld_H_C => .ldFrom .h (.reg .c)
  | .ld_H_D => .ldFrom .h (.reg .d)
  | .ld_H_E => .ldFrom .h (.reg .e)
  | .ld_H_H => .ldFrom .h (.reg .h)
  | .ld_H_L => .ldFrom .h (.reg .l)
  | .ld_H_atHL => .ldFrom .h .atHL
  | .ld_H_A => .ldFrom .h (.reg .a)
  | .ld_L_B => .ldFrom .l (.reg .b)
  | .ld_L_C => .ldFrom .l (.reg .c)
  | .ld_L_D => .ldFrom .l (.reg .d)
  | .ld_L_E => .ldFrom .l (.reg .e)
  | .ld_L_H => .ldFrom .l (.reg .h)
  | .ld_L_L => .ldFrom .l (.reg .l)
  | .ld_L_atHL => .ldFrom .l .atHL
  | .ld_L_A => .ldFrom .l (.reg .a)
  | .ld_atHL_B => .ldStore .b
  | .ld_atHL_C => .ldStore .c
  | .ld_atHL_D => .ldStore .d
  | .ld_atHL_E => .ldStore .e
  | .ld_atHL_H => .ldStore .h
  | .ld_atHL_L => .ldStore .l
  | .halt => .halt
  | .ld_atHL_A => .ldStore .a
  | .ld_A_B => .ldFrom .a (.reg .b)
  | .ld_A_C => .ldFrom .a (.reg .c)
  | .ld_A_D => .ldFrom .a (.reg .d)
  | .ld_A_E => .ldFrom .a (.reg .e)
  | .ld_A_H => .ldFrom .a (.reg .h)
  | .ld_A_L => .ldFrom .a (.reg .l)
  | .ld_A_atHL => .ldFrom .a .atHL
  | .ld_A_A => .ldFrom .a (.reg .a)
  | .add_A_B => .alu .add (.reg .b)
  | .add_A_C => .alu .add (.reg .c)
  | .add_A_D => .alu .add (.reg .d)
  | .add_A_E => .alu .add (.reg .e)
  | .add_A_H => .alu .add (.reg .h)
  | .add_A_L => .alu .add (.reg .l)
  | .add_A_atHL => .alu .add .atHL
  | .add_A_A => .alu .add (.reg .a)
  | .adc_A_B => .alu .adc (.reg .b)
  | .adc_A_C => .alu .adc (.reg .c)
  | .adc_A_D => .alu .adc (.reg .d)
  | .adc_A_E => .alu .adc (.reg .e)
  | .adc_A_H => .alu .adc (.reg .h)
  | .adc_A_L => .alu .adc (.reg .l)
  | .adc_A_atHL => .alu .adc .atHL
  | .adc_A_A => .alu .adc (.reg .a)
  | .sub_A_B => .alu .sub (.reg .b)
  | .sub_A_C => .alu .sub (.reg .c)
  | .sub_A_D => .alu .sub (.reg .d)
  | .sub_A_E => .alu .sub (.reg .e)
  | .sub_A_H => .alu .sub (.reg .h)
  | .sub_A_L => .alu .sub (.reg .l)
  | .sub_A_atHL => .alu .sub .atHL
  | .sub_A_A => .alu .sub (.reg .a)
  | .sbc_A_B => .alu .sbc (.reg .b)
  | .sbc_A_C => .alu .sbc (.reg .c)
  | .sbc_A_D => .alu .sbc (.reg .d)
  | .sbc_A_E => .alu .sbc (.reg .e)
  | .sbc_A_H => .alu .sbc (.reg .h)
  | .sbc_A_L => .alu .sbc (.reg .l)
  | .sbc_A_atHL => .alu .sbc .atHL
  | .sbc_A_A => .alu .sbc (.reg .a)
  | .and_A_B => .alu .and (.reg .b)
  | .and_A_C => .alu .and (.reg .c)
  | .and_A_D => .alu .and (.reg .d)
  | .and_A_E => .alu .and (.reg .e)
  | .and_A_H => .alu .and (.reg .h)
  | .and_A_L => .alu .and (.reg .l)
  | .and_A_atHL => .alu .and .atHL
  | .and_A_A => .alu .and (.reg .a)
  | .xor_A_B => .alu .xor (.reg .b)
  | .xor_A_C => .alu .xor (.reg .c)
  | .xor_A_D => .alu .xor (.reg .d)
  | .xor_A_E => .alu .xor (.reg .e)
  | .xor_A_H => .alu .xor (.reg .h)
  | .xor_A_L => .alu .xor (.reg .l)
  | .xor_A_atHL => .alu .xor .atHL
  | .xor_A_A => .alu .xor (.reg .a)
  | .or_A_B => .alu .or (.reg .b)
  | .or_A_C => .alu .or (.reg .c)
  | .or_A_D => .alu .or (.reg .d)
  | .or_A_E => .alu .or (.reg .e)
  | .or_A_H => .alu .or (.reg .h)
  | .or_A_L => .alu .or (.reg .l)
  | .or_A_atHL => .alu .or .atHL
  | .or_A_A => .alu .or (.reg .a)
  | .cp_A_B => .alu .cp (.reg .b)
  | .cp_A_C => .alu .cp (.reg .c)
  | .cp_A_D => .alu .cp (.reg .d)
  | .cp_A_E => .alu .cp (.reg .e)
  | .cp_A_H => .alu .cp (.reg .h)
  | .cp_A_L => .alu .cp (.reg .l)
  | .cp_A_atHL => .alu .cp .atHL
  | .cp_A_A => .alu .cp (.reg .a)
  | .ret_NZ => .retCond .nz
  | .pop_BC => .pop .bc
  | .jp_NZ nn => .jpCond nn .nz
  | .jp nn => .jp nn
  | .call_NZ nn => .callCond nn .nz
  | .push_BC => .push .bc
  | .add_A_n n => .aluImm n .add
  | .rst_00 => .rst .i0
  | .ret_Z => .retCond .z
  | .ret => .ret
  | .jp_Z nn => .jpCond nn .z
  | .prefixCB op2 => .prefixCB op2
  | .call_Z nn => .callCond nn .z
  | .call nn => .call nn
  | .adc_A_n n => .aluImm n .adc
  | .rst_08 => .rst .i1
  | .ret_NC => .retCond .nc
  | .pop_DE => .pop .de
  | .jp_NC nn => .jpCond nn .nc
  | .illegal_D3 => .illegal (op := 0xD3) (by decide)
  | .call_NC nn => .callCond nn .nc
  | .push_DE => .push .de
  | .sub_A_n n => .aluImm n .sub
  | .rst_10 => .rst .i2
  | .ret_C => .retCond .c
  | .reti => .reti
  | .jp_C nn => .jpCond nn .c
  | .illegal_DB => .illegal (op := 0xDB) (by decide)
  | .call_C nn => .callCond nn .c
  | .illegal_DD => .illegal (op := 0xDD) (by decide)
  | .sbc_A_n n => .aluImm n .sbc
  | .rst_18 => .rst .i3
  | .ldh_atN_A n => .ldh_atN_A n
  | .pop_HL => .pop .hl
  | .ldh_atC_A => .ldh_atC_A
  | .illegal_E3 => .illegal (op := 0xE3) (by decide)
  | .illegal_E4 => .illegal (op := 0xE4) (by decide)
  | .push_HL => .push .hl
  | .and_A_n n => .aluImm n .and
  | .rst_20 => .rst .i4
  | .add_SP_e e => .add_SP_e e
  | .jp_HL => .jp_HL
  | .ld_atNN_A nn => .ld_atNN_A nn
  | .illegal_EB => .illegal (op := 0xEB) (by decide)
  | .illegal_EC => .illegal (op := 0xEC) (by decide)
  | .illegal_ED => .illegal (op := 0xED) (by decide)
  | .xor_A_n n => .aluImm n .xor
  | .rst_28 => .rst .i5
  | .ldh_A_atN n => .ldh_A_atN n
  | .pop_AF => .pop .af
  | .ldh_A_atC => .ldh_A_atC
  | .di => .di
  | .illegal_F4 => .illegal (op := 0xF4) (by decide)
  | .push_AF => .push .af
  | .or_A_n n => .aluImm n .or
  | .rst_30 => .rst .i6
  | .ld_HL_SPe e => .ld_HL_SPe e
  | .ld_SP_HL => .ld_SP_HL
  | .ld_A_atNN nn => .ld_A_atNN nn
  | .ei => .ei
  | .illegal_FC => .illegal (op := 0xFC) (by decide)
  | .illegal_FD => .illegal (op := 0xFD) (by decide)
  | .cp_A_n n => .aluImm n .cp
  | .rst_38 => .rst .i7
  | .rlc_B => .rot .rlc (.reg .b)
  | .rlc_C => .rot .rlc (.reg .c)
  | .rlc_D => .rot .rlc (.reg .d)
  | .rlc_E => .rot .rlc (.reg .e)
  | .rlc_H => .rot .rlc (.reg .h)
  | .rlc_L => .rot .rlc (.reg .l)
  | .rlc_atHL => .rot .rlc .atHL
  | .rlc_A => .rot .rlc (.reg .a)
  | .rrc_B => .rot .rrc (.reg .b)
  | .rrc_C => .rot .rrc (.reg .c)
  | .rrc_D => .rot .rrc (.reg .d)
  | .rrc_E => .rot .rrc (.reg .e)
  | .rrc_H => .rot .rrc (.reg .h)
  | .rrc_L => .rot .rrc (.reg .l)
  | .rrc_atHL => .rot .rrc .atHL
  | .rrc_A => .rot .rrc (.reg .a)
  | .rl_B => .rot .rl (.reg .b)
  | .rl_C => .rot .rl (.reg .c)
  | .rl_D => .rot .rl (.reg .d)
  | .rl_E => .rot .rl (.reg .e)
  | .rl_H => .rot .rl (.reg .h)
  | .rl_L => .rot .rl (.reg .l)
  | .rl_atHL => .rot .rl .atHL
  | .rl_A => .rot .rl (.reg .a)
  | .rr_B => .rot .rr (.reg .b)
  | .rr_C => .rot .rr (.reg .c)
  | .rr_D => .rot .rr (.reg .d)
  | .rr_E => .rot .rr (.reg .e)
  | .rr_H => .rot .rr (.reg .h)
  | .rr_L => .rot .rr (.reg .l)
  | .rr_atHL => .rot .rr .atHL
  | .rr_A => .rot .rr (.reg .a)
  | .sla_B => .rot .sla (.reg .b)
  | .sla_C => .rot .sla (.reg .c)
  | .sla_D => .rot .sla (.reg .d)
  | .sla_E => .rot .sla (.reg .e)
  | .sla_H => .rot .sla (.reg .h)
  | .sla_L => .rot .sla (.reg .l)
  | .sla_atHL => .rot .sla .atHL
  | .sla_A => .rot .sla (.reg .a)
  | .sra_B => .rot .sra (.reg .b)
  | .sra_C => .rot .sra (.reg .c)
  | .sra_D => .rot .sra (.reg .d)
  | .sra_E => .rot .sra (.reg .e)
  | .sra_H => .rot .sra (.reg .h)
  | .sra_L => .rot .sra (.reg .l)
  | .sra_atHL => .rot .sra .atHL
  | .sra_A => .rot .sra (.reg .a)
  | .swap_B => .rot .swap (.reg .b)
  | .swap_C => .rot .swap (.reg .c)
  | .swap_D => .rot .swap (.reg .d)
  | .swap_E => .rot .swap (.reg .e)
  | .swap_H => .rot .swap (.reg .h)
  | .swap_L => .rot .swap (.reg .l)
  | .swap_atHL => .rot .swap .atHL
  | .swap_A => .rot .swap (.reg .a)
  | .srl_B => .rot .srl (.reg .b)
  | .srl_C => .rot .srl (.reg .c)
  | .srl_D => .rot .srl (.reg .d)
  | .srl_E => .rot .srl (.reg .e)
  | .srl_H => .rot .srl (.reg .h)
  | .srl_L => .rot .srl (.reg .l)
  | .srl_atHL => .rot .srl .atHL
  | .srl_A => .rot .srl (.reg .a)
  | .bit0_B => .bit .i0 (.reg .b)
  | .bit0_C => .bit .i0 (.reg .c)
  | .bit0_D => .bit .i0 (.reg .d)
  | .bit0_E => .bit .i0 (.reg .e)
  | .bit0_H => .bit .i0 (.reg .h)
  | .bit0_L => .bit .i0 (.reg .l)
  | .bit0_atHL => .bit .i0 .atHL
  | .bit0_A => .bit .i0 (.reg .a)
  | .bit1_B => .bit .i1 (.reg .b)
  | .bit1_C => .bit .i1 (.reg .c)
  | .bit1_D => .bit .i1 (.reg .d)
  | .bit1_E => .bit .i1 (.reg .e)
  | .bit1_H => .bit .i1 (.reg .h)
  | .bit1_L => .bit .i1 (.reg .l)
  | .bit1_atHL => .bit .i1 .atHL
  | .bit1_A => .bit .i1 (.reg .a)
  | .bit2_B => .bit .i2 (.reg .b)
  | .bit2_C => .bit .i2 (.reg .c)
  | .bit2_D => .bit .i2 (.reg .d)
  | .bit2_E => .bit .i2 (.reg .e)
  | .bit2_H => .bit .i2 (.reg .h)
  | .bit2_L => .bit .i2 (.reg .l)
  | .bit2_atHL => .bit .i2 .atHL
  | .bit2_A => .bit .i2 (.reg .a)
  | .bit3_B => .bit .i3 (.reg .b)
  | .bit3_C => .bit .i3 (.reg .c)
  | .bit3_D => .bit .i3 (.reg .d)
  | .bit3_E => .bit .i3 (.reg .e)
  | .bit3_H => .bit .i3 (.reg .h)
  | .bit3_L => .bit .i3 (.reg .l)
  | .bit3_atHL => .bit .i3 .atHL
  | .bit3_A => .bit .i3 (.reg .a)
  | .bit4_B => .bit .i4 (.reg .b)
  | .bit4_C => .bit .i4 (.reg .c)
  | .bit4_D => .bit .i4 (.reg .d)
  | .bit4_E => .bit .i4 (.reg .e)
  | .bit4_H => .bit .i4 (.reg .h)
  | .bit4_L => .bit .i4 (.reg .l)
  | .bit4_atHL => .bit .i4 .atHL
  | .bit4_A => .bit .i4 (.reg .a)
  | .bit5_B => .bit .i5 (.reg .b)
  | .bit5_C => .bit .i5 (.reg .c)
  | .bit5_D => .bit .i5 (.reg .d)
  | .bit5_E => .bit .i5 (.reg .e)
  | .bit5_H => .bit .i5 (.reg .h)
  | .bit5_L => .bit .i5 (.reg .l)
  | .bit5_atHL => .bit .i5 .atHL
  | .bit5_A => .bit .i5 (.reg .a)
  | .bit6_B => .bit .i6 (.reg .b)
  | .bit6_C => .bit .i6 (.reg .c)
  | .bit6_D => .bit .i6 (.reg .d)
  | .bit6_E => .bit .i6 (.reg .e)
  | .bit6_H => .bit .i6 (.reg .h)
  | .bit6_L => .bit .i6 (.reg .l)
  | .bit6_atHL => .bit .i6 .atHL
  | .bit6_A => .bit .i6 (.reg .a)
  | .bit7_B => .bit .i7 (.reg .b)
  | .bit7_C => .bit .i7 (.reg .c)
  | .bit7_D => .bit .i7 (.reg .d)
  | .bit7_E => .bit .i7 (.reg .e)
  | .bit7_H => .bit .i7 (.reg .h)
  | .bit7_L => .bit .i7 (.reg .l)
  | .bit7_atHL => .bit .i7 .atHL
  | .bit7_A => .bit .i7 (.reg .a)
  | .res0_B => .res .i0 (.reg .b)
  | .res0_C => .res .i0 (.reg .c)
  | .res0_D => .res .i0 (.reg .d)
  | .res0_E => .res .i0 (.reg .e)
  | .res0_H => .res .i0 (.reg .h)
  | .res0_L => .res .i0 (.reg .l)
  | .res0_atHL => .res .i0 .atHL
  | .res0_A => .res .i0 (.reg .a)
  | .res1_B => .res .i1 (.reg .b)
  | .res1_C => .res .i1 (.reg .c)
  | .res1_D => .res .i1 (.reg .d)
  | .res1_E => .res .i1 (.reg .e)
  | .res1_H => .res .i1 (.reg .h)
  | .res1_L => .res .i1 (.reg .l)
  | .res1_atHL => .res .i1 .atHL
  | .res1_A => .res .i1 (.reg .a)
  | .res2_B => .res .i2 (.reg .b)
  | .res2_C => .res .i2 (.reg .c)
  | .res2_D => .res .i2 (.reg .d)
  | .res2_E => .res .i2 (.reg .e)
  | .res2_H => .res .i2 (.reg .h)
  | .res2_L => .res .i2 (.reg .l)
  | .res2_atHL => .res .i2 .atHL
  | .res2_A => .res .i2 (.reg .a)
  | .res3_B => .res .i3 (.reg .b)
  | .res3_C => .res .i3 (.reg .c)
  | .res3_D => .res .i3 (.reg .d)
  | .res3_E => .res .i3 (.reg .e)
  | .res3_H => .res .i3 (.reg .h)
  | .res3_L => .res .i3 (.reg .l)
  | .res3_atHL => .res .i3 .atHL
  | .res3_A => .res .i3 (.reg .a)
  | .res4_B => .res .i4 (.reg .b)
  | .res4_C => .res .i4 (.reg .c)
  | .res4_D => .res .i4 (.reg .d)
  | .res4_E => .res .i4 (.reg .e)
  | .res4_H => .res .i4 (.reg .h)
  | .res4_L => .res .i4 (.reg .l)
  | .res4_atHL => .res .i4 .atHL
  | .res4_A => .res .i4 (.reg .a)
  | .res5_B => .res .i5 (.reg .b)
  | .res5_C => .res .i5 (.reg .c)
  | .res5_D => .res .i5 (.reg .d)
  | .res5_E => .res .i5 (.reg .e)
  | .res5_H => .res .i5 (.reg .h)
  | .res5_L => .res .i5 (.reg .l)
  | .res5_atHL => .res .i5 .atHL
  | .res5_A => .res .i5 (.reg .a)
  | .res6_B => .res .i6 (.reg .b)
  | .res6_C => .res .i6 (.reg .c)
  | .res6_D => .res .i6 (.reg .d)
  | .res6_E => .res .i6 (.reg .e)
  | .res6_H => .res .i6 (.reg .h)
  | .res6_L => .res .i6 (.reg .l)
  | .res6_atHL => .res .i6 .atHL
  | .res6_A => .res .i6 (.reg .a)
  | .res7_B => .res .i7 (.reg .b)
  | .res7_C => .res .i7 (.reg .c)
  | .res7_D => .res .i7 (.reg .d)
  | .res7_E => .res .i7 (.reg .e)
  | .res7_H => .res .i7 (.reg .h)
  | .res7_L => .res .i7 (.reg .l)
  | .res7_atHL => .res .i7 .atHL
  | .res7_A => .res .i7 (.reg .a)
  | .set0_B => .set .i0 (.reg .b)
  | .set0_C => .set .i0 (.reg .c)
  | .set0_D => .set .i0 (.reg .d)
  | .set0_E => .set .i0 (.reg .e)
  | .set0_H => .set .i0 (.reg .h)
  | .set0_L => .set .i0 (.reg .l)
  | .set0_atHL => .set .i0 .atHL
  | .set0_A => .set .i0 (.reg .a)
  | .set1_B => .set .i1 (.reg .b)
  | .set1_C => .set .i1 (.reg .c)
  | .set1_D => .set .i1 (.reg .d)
  | .set1_E => .set .i1 (.reg .e)
  | .set1_H => .set .i1 (.reg .h)
  | .set1_L => .set .i1 (.reg .l)
  | .set1_atHL => .set .i1 .atHL
  | .set1_A => .set .i1 (.reg .a)
  | .set2_B => .set .i2 (.reg .b)
  | .set2_C => .set .i2 (.reg .c)
  | .set2_D => .set .i2 (.reg .d)
  | .set2_E => .set .i2 (.reg .e)
  | .set2_H => .set .i2 (.reg .h)
  | .set2_L => .set .i2 (.reg .l)
  | .set2_atHL => .set .i2 .atHL
  | .set2_A => .set .i2 (.reg .a)
  | .set3_B => .set .i3 (.reg .b)
  | .set3_C => .set .i3 (.reg .c)
  | .set3_D => .set .i3 (.reg .d)
  | .set3_E => .set .i3 (.reg .e)
  | .set3_H => .set .i3 (.reg .h)
  | .set3_L => .set .i3 (.reg .l)
  | .set3_atHL => .set .i3 .atHL
  | .set3_A => .set .i3 (.reg .a)
  | .set4_B => .set .i4 (.reg .b)
  | .set4_C => .set .i4 (.reg .c)
  | .set4_D => .set .i4 (.reg .d)
  | .set4_E => .set .i4 (.reg .e)
  | .set4_H => .set .i4 (.reg .h)
  | .set4_L => .set .i4 (.reg .l)
  | .set4_atHL => .set .i4 .atHL
  | .set4_A => .set .i4 (.reg .a)
  | .set5_B => .set .i5 (.reg .b)
  | .set5_C => .set .i5 (.reg .c)
  | .set5_D => .set .i5 (.reg .d)
  | .set5_E => .set .i5 (.reg .e)
  | .set5_H => .set .i5 (.reg .h)
  | .set5_L => .set .i5 (.reg .l)
  | .set5_atHL => .set .i5 .atHL
  | .set5_A => .set .i5 (.reg .a)
  | .set6_B => .set .i6 (.reg .b)
  | .set6_C => .set .i6 (.reg .c)
  | .set6_D => .set .i6 (.reg .d)
  | .set6_E => .set .i6 (.reg .e)
  | .set6_H => .set .i6 (.reg .h)
  | .set6_L => .set .i6 (.reg .l)
  | .set6_atHL => .set .i6 .atHL
  | .set6_A => .set .i6 (.reg .a)
  | .set7_B => .set .i7 (.reg .b)
  | .set7_C => .set .i7 (.reg .c)
  | .set7_D => .set .i7 (.reg .d)
  | .set7_E => .set .i7 (.reg .e)
  | .set7_H => .set .i7 (.reg .h)
  | .set7_L => .set .i7 (.reg .l)
  | .set7_atHL => .set .i7 .atHL
  | .set7_A => .set .i7 (.reg .a)

end Sys2Proof.Laws
end

