-- ==== Sys2Proof/Laws/Exec.lean ====
section
/-! SUPPORT. `exec` on each family of instructions: the shared operation it performs. -/

namespace Sys2Proof.Laws

open Sys2Proof.Machine

variable (s : State)

theorem exec_ldFrom (r : Reg8) (o : Operand8) : exec (.ld (.reg r) o) s = .next (s.load (.reg r) o) := by
  cases r <;> rcases o with q | _ <;> first | rfl | (cases q <;> rfl)

theorem exec_ldStore (r : Reg8) : exec (.ld .atHL (.reg r)) s = .next (s.load .atHL (.reg r)) := by
  cases r <;> rfl

theorem exec_ldImm (n : Byte) (o : Operand8) : exec (.ldImm n o) s = .next (s.setOperand o n) := by
  rcases o with q | _ <;> first | rfl | (cases q <;> rfl)

theorem exec_inc (o : Operand8) : exec (.inc o) s = .next (s.increment o) := by
  rcases o with q | _ <;> first | rfl | (cases q <;> rfl)

theorem exec_dec (o : Operand8) : exec (.dec o) s = .next (s.decrement o) := by
  rcases o with q | _ <;> first | rfl | (cases q <;> rfl)

theorem exec_ldPair (nn : Word) (p : Pair) : exec (.ldPair nn p) s = .next (s.setPair p nn) := by
  cases p <;> rfl

theorem exec_addHL (p : Pair) : exec (.addHL p) s = .next (s.addToHL p) := by
  cases p <;> rfl

theorem exec_incPair (p : Pair) : exec (.incPair p) s = .next (s.setPair p (s.pair p + 1)) := by
  cases p <;> rfl

theorem exec_decPair (p : Pair) : exec (.decPair p) s = .next (s.setPair p (s.pair p - 1)) := by
  cases p <;> rfl

theorem exec_storeA (i : Indirect) : exec (.storeA i) s = .next (s.storeIndirect i) := by
  cases i <;> rfl

theorem exec_loadA (i : Indirect) : exec (.loadA i) s = .next (s.loadIndirect i) := by
  cases i <;> rfl

theorem exec_alu (op : AluOp) (o : Operand8) : exec (.alu op o) s = .next (s.alu op (s.operand o)) := by
  cases op <;> rcases o with q | _ <;> first | rfl | (cases q <;> rfl)

theorem exec_aluImm (n : Byte) (op : AluOp) : exec (.aluImm n op) s = .next (s.alu op n) := by
  cases op <;> rfl

theorem exec_jrCond (e : Byte) (cc : Cond) : exec (.jrCond e cc) s = .next (s.onlyIf cc (s.jumpRelative e)) := by
  cases cc <;> rfl

theorem exec_jpCond (nn : Word) (cc : Cond) : exec (.jpCond nn cc) s = .next (s.onlyIf cc { s with pc := nn }) := by
  cases cc <;> rfl

theorem exec_callCond (nn : Word) (cc : Cond) : exec (.callCond nn cc) s = .next (s.onlyIf cc (s.callTo nn)) := by
  cases cc <;> rfl

theorem exec_retCond (cc : Cond) : exec (.retCond cc) s = .next (s.onlyIf cc s.returnTo) := by
  cases cc <;> rfl

theorem exec_push (p : StackPair) : exec (.push p) s = .next (s.push16 (s.stackPair p)) := by
  cases p <;> rfl

theorem exec_pop (p : StackPair) : exec (.pop p) s = .next (s.popPair p) := by
  cases p <;> rfl

theorem exec_rst (t : Idx3) : exec (.rst t) s = .next (s.callTo (BitVec.ofNat 16 (8 * t.val))) := by
  cases t <;> rfl

theorem exec_rot (op : RotOp) (o : Operand8) : exec (.rot op o) s = .next (s.rotate op o) := by
  cases op <;> rcases o with q | _ <;> first | rfl | (cases q <;> rfl)

theorem exec_bit (b : Idx3) (o : Operand8) : exec (.bit b o) s = .next (s.testBit b o) := by
  cases b <;> rcases o with q | _ <;> first | rfl | (cases q <;> rfl)

theorem exec_res (b : Idx3) (o : Operand8) : exec (.res b o) s = .next (s.resetBit b o) := by
  cases b <;> rcases o with q | _ <;> first | rfl | (cases q <;> rfl)

theorem exec_set (b : Idx3) (o : Operand8) : exec (.set b o) s = .next (s.raiseBit b o) := by
  cases b <;> rcases o with q | _ <;> first | rfl | (cases q <;> rfl)

/-- The byte 0xCB does what its second byte's entry of the extended table does (R306). -/
theorem exec_prefixCB (op2 : Byte) : exec (.prefixCB op2) s = exec (decodeExtended op2) s := by
  change Host.Outcome.next (s.extended op2) = _
  unfold State.extended decodeExtended
  cases fieldX op2 <;> simp only [exec_rot, exec_bit, exec_res, exec_set]

/-- The eleven illegal opcodes (R307). -/
theorem exec_illegal {i : Instr} {op : Byte} (h : (i, op) ∈ illegalRows) :
    exec i s = .fault (.illegalOpcode op s.pc) := by
  simp only [illegalRows, List.mem_cons, Prod.mk.injEq, List.not_mem_nil, or_false] at h
  rcases h with h | h | h | h | h | h | h | h | h | h | h <;> obtain ⟨rfl, rfl⟩ := h <;> rfl

/-- Every instruction completes, in every state, except the eleven illegal opcodes. -/
theorem exec_next_or_illegal (i : Instr) : (∃ t, exec i s = .next t) ∨ ∃ op, (i, op) ∈ illegalRows := by
  cases shape i with
  | ldFrom r o => exact .inl ⟨_, exec_ldFrom s r o⟩
  | ldStore r => exact .inl ⟨_, exec_ldStore s r⟩
  | ldImm n o => exact .inl ⟨_, exec_ldImm s n o⟩
  | inc o => exact .inl ⟨_, exec_inc s o⟩
  | dec o => exact .inl ⟨_, exec_dec s o⟩
  | ldPair nn p => exact .inl ⟨_, exec_ldPair s nn p⟩
  | addHL p => exact .inl ⟨_, exec_addHL s p⟩
  | incPair p => exact .inl ⟨_, exec_incPair s p⟩
  | decPair p => exact .inl ⟨_, exec_decPair s p⟩
  | storeA i => exact .inl ⟨_, exec_storeA s i⟩
  | loadA i => exact .inl ⟨_, exec_loadA s i⟩
  | alu op o => exact .inl ⟨_, exec_alu s op o⟩
  | aluImm n op => exact .inl ⟨_, exec_aluImm s n op⟩
  | jrCond e cc => exact .inl ⟨_, exec_jrCond s e cc⟩
  | jpCond nn cc => exact .inl ⟨_, exec_jpCond s nn cc⟩
  | callCond nn cc => exact .inl ⟨_, exec_callCond s nn cc⟩
  | retCond cc => exact .inl ⟨_, exec_retCond s cc⟩
  | push p => exact .inl ⟨_, exec_push s p⟩
  | pop p => exact .inl ⟨_, exec_pop s p⟩
  | rst t => exact .inl ⟨_, exec_rst s t⟩
  | rot op o => exact .inl ⟨_, exec_rot s op o⟩
  | bit b o => exact .inl ⟨_, exec_bit s b o⟩
  | res b o => exact .inl ⟨_, exec_res s b o⟩
  | set b o => exact .inl ⟨_, exec_set s b o⟩
  | illegal h => exact .inr ⟨_, h⟩
  | _ => exact .inl ⟨_, rfl⟩

end Sys2Proof.Laws
end

