-- ==== Sys2Proof/Laws/Operands.lean ====
section
/-! SUPPORT. Laws of bytes and words, and of the register pairs: a pair written is read back, the others stand. -/

namespace Sys2Proof

@[simp] theorem wordOf_loByte_hiByte (w : Word) : wordOf (loByte w) (hiByte w) = w := by
  apply BitVec.eq_of_getLsbD_eq
  intro i hi
  rw [wordOf, BitVec.getLsbD_append]
  split
  · rename_i h
    simp [loByte, h]
  · rename_i h
    simp only [hiByte, BitVec.getLsbD_extractLsb', show i - 8 < 8 by omega, decide_true, Bool.true_and]
    rw [show 8 + (i - 8) = i by omega]

@[simp] theorem loByte_wordOf (lo hi : Byte) : loByte (wordOf lo hi) = lo := by
  apply BitVec.eq_of_getLsbD_eq
  intro i h
  rw [loByte, BitVec.getLsbD_extractLsb', wordOf, BitVec.getLsbD_append]
  simp [h]

@[simp] theorem hiByte_wordOf (lo hi : Byte) : hiByte (wordOf lo hi) = hi := by
  apply BitVec.eq_of_getLsbD_eq
  intro i h
  rw [hiByte, BitVec.getLsbD_extractLsb', wordOf, BitVec.getLsbD_append]
  simp [h]

theorem wordOf_append (lo hi : Byte) : wordOf lo hi = hi ++ lo := rfl

end Sys2Proof

namespace Sys2Proof.Machine

@[simp] theorem State.bc_setBC (s : State) (v : Word) : (s.setBC v).bc = v := wordOf_loByte_hiByte v

@[simp] theorem State.de_setDE (s : State) (v : Word) : (s.setDE v).de = v := wordOf_loByte_hiByte v

@[simp] theorem State.hl_setHL (s : State) (v : Word) : (s.setHL v).hl = v := wordOf_loByte_hiByte v

@[simp] theorem State.pair_setPair_self (s : State) (p : Pair) (v : Word) : (s.setPair p v).pair p = v := by
  cases p <;> simp [State.setPair, State.pair]

theorem State.pair_setPair_other (s : State) {p q : Pair} (h : q ≠ p) (v : Word) :
    (s.setPair p v).pair q = s.pair q := by
  cases q <;> cases p <;> first | rfl | exact absurd rfl h

theorem State.stackPair_setStackPair_self (s : State) {p : StackPair} (h : p ≠ .af) (v : Word) :
    (s.setStackPair p v).stackPair p = v := by
  cases p <;> first | exact absurd rfl h | simp [State.setStackPair, State.stackPair]

theorem State.stackPair_setStackPair_other (s : State) {p q : StackPair} (h : q ≠ p) (v : Word) :
    (s.setStackPair p v).stackPair q = s.stackPair q := by
  cases q <;> cases p <;> first | rfl | exact absurd rfl h

/-- The address of the high-page forms as a number (R161 to R164). -/
theorem highPage_eq (n : Byte) : highPage n = BitVec.ofNat 16 (0xFF00 + n.toNat) := by
  apply BitVec.eq_of_toNat_eq
  have := n.isLt
  simp [highPage]

/-- A signed displacement as an integer (R129). -/
theorem toNat_add_sext16 (w : Word) (e : Byte) :
    ((w + sext16 e).toNat : Int) = ((w.toNat : Int) + e.toInt) % 65536 := by
  have h1 := w.isLt
  have h2 := e.isLt
  have h3 : ((sext16 e).toNat : Int) = e.toInt % 65536 := by
    revert e
    decide
  rw [BitVec.toNat_add]
  omega

/-- A register written, and nothing else (R123). -/
theorem State.setReg_frame (s : State) (r : Reg8) (v : Byte) :
    { s.setReg r v with a := s.a, b := s.b, c := s.c, d := s.d, e := s.e, h := s.h, l := s.l } = s := by
  cases r <;> rfl

end Sys2Proof.Machine
end

