-- ==== Sys2Proof/Laws/Flags.lean ====
section
/-! SUPPORT. Laws of the flag register: what a flag write leaves in each flag and in the low four bits. -/

namespace Sys2Proof.Machine

theorem Flags.pack_bits (x : Flags) :
    x.pack.getLsbD 7 = x.z ∧ x.pack.getLsbD 6 = x.n ∧ x.pack.getLsbD 5 = x.h ∧ x.pack.getLsbD 4 = x.c ∧
      x.pack &&& 0x0F = 0 := by
  obtain ⟨z, n, h, c⟩ := x
  cases z <;> cases n <;> cases h <;> cases c <;> decide

@[simp] theorem Flags.pack_low (x : Flags) : x.pack &&& 0x0F#8 = 0#8 := x.pack_bits.2.2.2.2

@[simp] theorem State.zFlag_setFlags (s : State) (x : Flags) : (s.setFlags x).zFlag = x.z := x.pack_bits.1

@[simp] theorem State.nFlag_setFlags (s : State) (x : Flags) : (s.setFlags x).nFlag = x.n := x.pack_bits.2.1

@[simp] theorem State.hFlag_setFlags (s : State) (x : Flags) : (s.setFlags x).hFlag = x.h := x.pack_bits.2.2.1

@[simp] theorem State.cFlag_setFlags (s : State) (x : Flags) : (s.setFlags x).cFlag = x.c := x.pack_bits.2.2.2.1

/-- The flags depend on `F` alone. -/
theorem State.flags_congr {s t : State} (h : t.f = s.f) :
    t.zFlag = s.zFlag ∧ t.nFlag = s.nFlag ∧ t.hFlag = s.hFlag ∧ t.cFlag = s.cFlag := by
  simp [State.zFlag, State.nFlag, State.hFlag, State.cFlag, h]

theorem State.cond_congr {s t : State} (h : t.f = s.f) (cc : Cond) : t.cond cc = s.cond cc := by
  cases cc <;> simp [State.cond, State.zFlag, State.cFlag, h]

/-- `AF` loses the low four bits of the byte put into `F` (R13). -/
theorem low_nibble_dropped (v : Byte) : (v &&& 0xF0) &&& 0x0F = 0 := by
  rw [BitVec.and_assoc]
  simp

end Sys2Proof.Machine
end

