-- ==== Sys2Proof/Laws/Frames.lean ====
section
/-! SUPPORT. What each shared operation, each instruction and each part of a step can change, said once. -/

namespace Sys2Proof.Machine

/-! ### Stack, interrupts -/

/-- A push changes `SP` and what a write changes. -/
theorem State.push8_eq (s : State) (v : Byte) :
    s.push8 v = { s with sp := s.sp - 1, mem := (s.push8 v).mem, banks := (s.push8 v).banks
                         bootDone := (s.push8 v).bootDone } := by
  unfold State.push8 State.memWrite
  rw [State.write8_eq]

theorem State.push16_eq (s : State) (v : Word) :
    s.push16 v = { s with sp := s.sp - 2, mem := (s.push16 v).mem, banks := (s.push16 v).banks
                          bootDone := (s.push16 v).bootDone } := by
  have h : s.sp - 1 - 1 = s.sp - 2 := by bv_omega
  unfold State.push16
  rw [State.push8_eq (s.push8 _), State.push8_eq s]
  rw [← h]

/-- A return from an interrupt changes `PC`, `SP`, `IME` and the latch (R290). -/
theorem State.returnFromInterrupt_eq (s : State) :
    s.returnFromInterrupt = { s with sp := s.sp + 2, pc := s.popValue, ime := true, inService := false } := rfl

theorem State.writeBit_eq (s : State) (a : Word) (b : Nat) (x : Bool) :
    s.writeBit a b x = { s with mem := (s.writeBit a b x).mem, banks := (s.writeBit a b x).banks
                                bootDone := (s.writeBit a b x).bootDone } := State.write8_eq _ _ _ _

/-- Service changes `SP`, `IME`, `PC`, the latch and what a write changes (R324). -/
theorem State.service_eq (s : State) (i : Source) :
    s.service i = { s with sp := s.sp - 2, ime := false, pc := i.vector, inService := true, mem := (s.service i).mem
                           banks := (s.service i).banks, bootDone := (s.service i).bootDone } := by
  unfold State.service
  dsimp only
  rw [State.writeBit_eq, State.writeBit_eq (s.push16 s.pc), State.push16_eq]

/-! ### The invariant facts, as one relation -/

/-- What every part of a step keeps: the parameters, the step index and the queue of the peripherals, a canonical storage
list, a clean low nibble of `F`, a set boot latch, and the ranges of the two accumulators. -/
structure Keeps (s t : State) : Prop where
  params : t.params = s.params
  index : t.stepIndex = s.stepIndex
  queue : t.envQueue = s.envQueue
  wf : s.mem.wf = true → t.mem.wf = true
  flags : s.f &&& 0x0F = 0 → t.f &&& 0x0F = 0
  boot : s.bootDone = true → t.bootDone = true
  div : s.divAcc ≤ 255 → t.divAcc ≤ 255
  tima : s.timaAcc ≤ 1023 → t.timaAcc ≤ 1023

theorem Keeps.rfl' (s : State) : Keeps s s := ⟨rfl, rfl, rfl, id, id, id, id, id⟩

theorem Keeps.trans {s t u : State} (h : Keeps s t) (g : Keeps t u) : Keeps s u :=
  ⟨g.params.trans h.params, g.index.trans h.index, g.queue.trans h.queue, g.wf ∘ h.wf, g.flags ∘ h.flags,
    g.boot ∘ h.boot, g.div ∘ h.div, g.tima ∘ h.tima⟩

theorem Keeps.write8 (s : State) (a : Word) (v : Byte) (prog : Bool) : Keeps s (s.write8 a v prog) :=
  ⟨by simp, by simp, by simp, fun h => State.wf_write8 h _ _ _, by simp, fun h => by
    rw [State.write8_bootDone, h, Bool.true_or], by simp, by simp⟩

/-- An update of anything but the eight fields. -/
theorem Keeps.of_eq {s t : State} (h1 : t.params = s.params) (h2 : t.stepIndex = s.stepIndex)
    (h3 : t.envQueue = s.envQueue) (h4 : t.mem = s.mem) (h5 : t.f = s.f) (h6 : t.bootDone = s.bootDone)
    (h7 : t.divAcc = s.divAcc) (h8 : t.timaAcc = s.timaAcc) : Keeps s t :=
  ⟨h1, h2, h3, by rw [h4]; exact id, by rw [h5]; exact id, by rw [h6]; exact id, by rw [h7]; exact id,
    by rw [h8]; exact id⟩

theorem Keeps.setFlags (s : State) (x : Flags) : Keeps s (s.setFlags x) :=
  ⟨rfl, rfl, rfl, id, fun _ => x.pack_low, id, id, id⟩

theorem Keeps.setOperand (s : State) (o : Operand8) (v : Byte) : Keeps s (s.setOperand o v) := by
  rcases o with r | _
  · cases r <;> exact .of_eq rfl rfl rfl rfl rfl rfl rfl rfl
  · exact .write8 _ _ _ _

theorem Keeps.setPair (s : State) (p : Pair) (v : Word) : Keeps s (s.setPair p v) := by
  cases p <;> exact .of_eq rfl rfl rfl rfl rfl rfl rfl rfl

theorem Keeps.pc (s : State) (v : Word) : Keeps s { s with pc := v } := .of_eq rfl rfl rfl rfl rfl rfl rfl rfl

theorem Keeps.halted (s : State) (x : Bool) : Keeps s { s with halted := x } := .of_eq rfl rfl rfl rfl rfl rfl rfl rfl

theorem Keeps.enter (s : State) (v : Word) (x y : Bool) : Keeps s { s with ime := x, pc := v, inService := y } :=
  .of_eq rfl rfl rfl rfl rfl rfl rfl rfl

theorem Keeps.push8 (s : State) (v : Byte) : Keeps s (s.push8 v) :=
  Keeps.trans (t := { s with sp := s.sp - 1 }) (.of_eq rfl rfl rfl rfl rfl rfl rfl rfl) (.write8 _ _ _ _)

theorem Keeps.push16 (s : State) (v : Word) : Keeps s (s.push16 v) := (Keeps.push8 _ _).trans (Keeps.push8 _ _)

theorem Keeps.popPair (s : State) (p : StackPair) : Keeps s (s.popPair p) := by
  cases p
  case af => exact ⟨rfl, rfl, rfl, id, fun _ => low_nibble_dropped _, id, id, id⟩
  all_goals exact .of_eq rfl rfl rfl rfl rfl rfl rfl rfl

theorem Keeps.callTo (s : State) (nn : Word) : Keeps s (s.callTo nn) :=
  (Keeps.push16 s s.pc).trans (.pc _ _)

theorem Keeps.onlyIf {s t : State} (cc : Cond) (h : Keeps s t) : Keeps s (s.onlyIf cc t) := by
  unfold State.onlyIf
  split
  · exact h
  · exact .rfl' s

theorem Keeps.afterIndirect (s : State) (i : Indirect) : Keeps s (s.afterIndirect i) := by
  cases i <;> exact .of_eq rfl rfl rfl rfl rfl rfl rfl rfl

theorem Keeps.service (s : State) (i : Source) : Keeps s (s.service i) :=
  (((Keeps.push16 s s.pc).trans (.write8 _ _ _ _)).trans (.write8 _ _ _ _)).trans (.enter _ _ _ _)

theorem Keeps.checkSource (en fl : Byte) (s : State) (i : Source) : Keeps s (s.checkSource en fl i) := by
  unfold State.checkSource
  split
  · split
    · exact (Keeps.service s i).trans (.halted _ _)
    · exact .halted _ _
  · exact .rfl' s

theorem Keeps.foldl {α : Type} (f : State → α → State) (hf : ∀ s x, Keeps s (f s x)) (l : List α) (s : State) :
    Keeps s (l.foldl f s) := by
  induction l generalizing s with
  | nil => exact .rfl' s
  | cons x l ih => exact (hf s x).trans (ih _)

theorem Keeps.checkInterrupt (s : State) : Keeps s s.checkInterrupt := by
  unfold State.checkInterrupt
  split
  · exact .rfl' s
  · exact Keeps.foldl _ (fun t i => Keeps.checkSource _ _ t i) _ s

theorem Keeps.rotate (s : State) (op : RotOp) (o : Operand8) : Keeps s (s.rotate op o) :=
  (Keeps.setOperand _ _ _).trans (.setFlags _ _)

/-- What every instruction keeps. -/
theorem Keeps.exec {i : Instr} {s t : State} (h : exec i s = .next t) : Keeps s t := by
  have hx : ∀ {i : Instr} {u : State}, Machine.exec i s = .next u → Machine.exec i s = .next t → Keeps s u → Keeps s t := by
    intro i u h1 h2 hk
    rw [h1] at h2
    cases h2
    exact hk
  cases Laws.shape i with
  | ldFrom r o => exact hx (Laws.exec_ldFrom s r o) h (.setOperand _ _ _)
  | ldStore r => exact hx (Laws.exec_ldStore s r) h (.setOperand _ _ _)
  | ldImm n o => exact hx (Laws.exec_ldImm s n o) h (.setOperand _ _ _)
  | inc o => exact hx (Laws.exec_inc s o) h ((Keeps.setOperand _ _ _).trans (.setFlags _ _))
  | dec o => exact hx (Laws.exec_dec s o) h ((Keeps.setOperand _ _ _).trans (.setFlags _ _))
  | ldPair nn p => exact hx (Laws.exec_ldPair s nn p) h (.setPair _ _ _)
  | addHL p => exact hx (Laws.exec_addHL s p) h ⟨rfl, rfl, rfl, id, fun _ => Flags.pack_low _, id, id, id⟩
  | incPair p => exact hx (Laws.exec_incPair s p) h (.setPair _ _ _)
  | decPair p => exact hx (Laws.exec_decPair s p) h (.setPair _ _ _)
  | storeA i => exact hx (Laws.exec_storeA s i) h ((Keeps.write8 _ _ _ _).trans (.afterIndirect _ _))
  | loadA i => exact hx (Laws.exec_loadA s i) h (Keeps.trans (t := { s with a := s.memRead (s.indirect i) })
      (.of_eq rfl rfl rfl rfl rfl rfl rfl rfl) (.afterIndirect _ _))
  | alu op o => exact hx (Laws.exec_alu s op o) h ⟨rfl, rfl, rfl, id, fun _ => Flags.pack_low _, id, id, id⟩
  | aluImm n op => exact hx (Laws.exec_aluImm s n op) h ⟨rfl, rfl, rfl, id, fun _ => Flags.pack_low _, id, id, id⟩
  | jrCond e cc => exact hx (Laws.exec_jrCond s e cc) h (.onlyIf _ (.of_eq rfl rfl rfl rfl rfl rfl rfl rfl))
  | jpCond nn cc => exact hx (Laws.exec_jpCond s nn cc) h (.onlyIf _ (.of_eq rfl rfl rfl rfl rfl rfl rfl rfl))
  | callCond nn cc => exact hx (Laws.exec_callCond s nn cc) h (.onlyIf _ (.callTo _ _))
  | retCond cc => exact hx (Laws.exec_retCond s cc) h (.onlyIf _ (.of_eq rfl rfl rfl rfl rfl rfl rfl rfl))
  | push p => exact hx (Laws.exec_push s p) h (.push16 _ _)
  | pop p => exact hx (Laws.exec_pop s p) h (.popPair _ _)
  | rst t => exact hx (Laws.exec_rst s t) h (.callTo _ _)
  | rot op o => exact hx (Laws.exec_rot s op o) h (.rotate _ _ _)
  | bit b o => exact hx (Laws.exec_bit s b o) h (.setFlags _ _)
  | res b o => exact hx (Laws.exec_res s b o) h (.setOperand _ _ _)
  | set b o => exact hx (Laws.exec_set s b o) h (.setOperand _ _ _)
  | prefixCB op2 =>
    refine hx (u := s.extended op2) rfl h ?_
    unfold State.extended
    cases fieldX op2
    · exact .rotate _ _ _
    · exact .setFlags _ _
    · exact .setOperand _ _ _
    · exact .setOperand _ _ _
  | illegal hi =>
    rw [Laws.exec_illegal s hi] at h
    exact absurd h (by simp)
  | ld_atNN_SP nn => cases h; exact (Keeps.write8 _ _ _ _).trans (.write8 _ _ _ _)
  | ld_atNN_A nn => cases h; exact .write8 _ _ _ _
  | ldh_atN_A n => cases h; exact .write8 _ _ _ _
  | ldh_atC_A => cases h; exact .write8 _ _ _ _
  | call nn => cases h; exact .callTo _ _
  | ld_HL_SPe | add_SP_e | rlca | rrca | rla | rra | daa | cpl | scf | ccf =>
    cases h; exact ⟨rfl, rfl, rfl, id, fun _ => Flags.pack_low _, id, id, id⟩
  | nop | stop | jr | halt | ldh_A_atN | ret | reti | jp_HL | ld_SP_HL | ldh_A_atC | ld_A_atNN | jp | di | ei =>
    cases h; exact .of_eq rfl rfl rfl rfl rfl rfl rfl rfl

/-! ### The timer and the peripherals -/

theorem Keeps.tickTima (s : State) : Keeps s s.tickTima := by
  unfold State.tickTima
  split
  · exact ((Keeps.write8 _ _ _ _).trans (.write8 _ _ _ _)).trans (.write8 _ _ _ _)
  · exact .write8 _ _ _ _

/-- The divider changes `div_acc` and what a write changes (R334). -/
theorem State.tickDivider_eq (s : State) :
    s.tickDivider = { s with divAcc := s.tickDivider.divAcc, mem := s.tickDivider.mem, banks := s.tickDivider.banks
                             bootDone := s.tickDivider.bootDone } := by
  unfold State.tickDivider
  split
  · rw [State.write8_eq]
  · rfl

theorem State.tickTima_eq (s : State) :
    s.tickTima = { s with mem := s.tickTima.mem, banks := s.tickTima.banks, bootDone := s.tickTima.bootDone } := by
  unfold State.tickTima
  split
  · rw [State.writeBit_eq, State.writeBit_eq (s.write8 _ _ _), State.write8_eq]
  · rw [State.write8_eq]

/-- The counter changes `tima_acc` and what a write changes (R335, R336). -/
theorem State.tickCounter_eq (s : State) :
    s.tickCounter = { s with timaAcc := s.tickCounter.timaAcc, mem := s.tickCounter.mem, banks := s.tickCounter.banks
                             bootDone := s.tickCounter.bootDone } := by
  unfold State.tickCounter
  split
  · split
    · rw [State.tickTima_eq]
    · rfl
  · rfl

/-- The timer changes the two accumulators and what a write changes (R333). -/
theorem State.tickTimer_eq (s : State) (n : Nat) :
    s.tickTimer n = { s with divAcc := (s.tickTimer n).divAcc, timaAcc := (s.tickTimer n).timaAcc
                             mem := (s.tickTimer n).mem, banks := (s.tickTimer n).banks
                             bootDone := (s.tickTimer n).bootDone } := by
  induction n generalizing s with
  | zero => rfl
  | succ n ih => rw [State.tickTimer, ih, State.tickCounter_eq, State.tickDivider_eq]

/-- The divider accumulator stays in its range (R30). -/
theorem State.tickDivider_divAcc (s : State) : s.tickDivider.divAcc ≤ 255 := by
  unfold State.tickDivider
  split
  · simp
  · rename_i h
    exact Nat.le_of_lt_succ (by simpa using h)

/-- The counter accumulator stays in its range (R31). -/
theorem State.tickCounter_timaAcc {s : State} (h : s.timaAcc ≤ 1023) : s.tickCounter.timaAcc ≤ 1023 := by
  have ht : ∀ j : Idx2, timaT j ≤ 1024 := by intro j; cases j <;> decide
  unfold State.tickCounter
  split
  · split
    · rw [State.tickTima_eq]
      exact Nat.zero_le _
    · rename_i hlt
      have := ht (idx2 (s.read8 Config.TAC false).toNat)
      simp only [ge_iff_le, not_le] at hlt
      exact Nat.le_of_lt_succ (lt_of_lt_of_le hlt this)
  · exact h

theorem Keeps.tickDivider (s : State) : Keeps s s.tickDivider := by
  have h := State.tickDivider_divAcc s
  unfold State.tickDivider at h ⊢
  split
  · rename_i hge
    rw [if_pos hge] at h
    have hz : Keeps s { s with divAcc := 0 } := ⟨rfl, rfl, rfl, id, id, id, fun _ => Nat.zero_le _, id⟩
    exact hz.trans (.write8 _ _ _ _)
  · rename_i hlt
    rw [if_neg hlt] at h
    exact ⟨rfl, rfl, rfl, id, id, id, fun _ => h, id⟩

theorem Keeps.tickCounter (s : State) : Keeps s s.tickCounter := by
  have h : s.timaAcc ≤ 1023 → s.tickCounter.timaAcc ≤ 1023 := State.tickCounter_timaAcc
  unfold State.tickCounter at h ⊢
  split
  · rename_i hen
    rw [if_pos hen] at h
    split
    · have hz : Keeps s { s with timaAcc := 0 } := ⟨rfl, rfl, rfl, id, id, id, id, fun _ => Nat.zero_le _⟩
      exact hz.trans (.tickTima _)
    · rename_i hlt
      rw [if_neg hlt] at h
      exact ⟨rfl, rfl, rfl, id, id, id, id, h⟩
  · exact .rfl' s

theorem Keeps.tickTimer (s : State) (n : Nat) : Keeps s (s.tickTimer n) := by
  induction n generalizing s with
  | zero => exact .rfl' s
  | succ n ih => exact ((Keeps.tickDivider s).trans (.tickCounter _)).trans (ih _)

theorem Keeps.envWrite (s : State) (w : EnvWrite) : Keeps s (s.envWrite w) := by
  unfold State.envWrite
  split
  · exact ⟨rfl, rfl, rfl, fun h => State.wf_setCell h _ _, id, id, id, id⟩
  · exact .rfl' s

/-- A write of a peripheral changes one byte of storage at most. -/
theorem State.envWrite_eq (s : State) (w : EnvWrite) : s.envWrite w = { s with mem := (s.envWrite w).mem } := by
  unfold State.envWrite
  split <;> rfl

/-- A peripheral reaches no byte outside `IO`, `VRAM` and `OAM` (R349). -/
theorem State.cell_envWrite_other {s : State} {x : Loc} (hx : x.off < 0x4000)
    (h : x.buf ≠ .io ∧ x.buf ≠ .vram ∧ x.buf ≠ .oam) (w : EnvWrite) : (s.envWrite w).cell x = s.cell x := by
  unfold State.envWrite
  split
  · rename_i hw
    obtain ⟨area, off, v⟩ := w
    refine State.cell_setCell_other _ _ ?_ hx fun hxw => ?_
    · have := (Loc.exists_iff _ _).mp hw
      cases area <;> simp_all [EnvWrite.loc, Buffer.size] <;> omega
    · cases area <;> simp_all [EnvWrite.loc]
  · rfl

theorem State.envWrites_eq (l : List EnvWrite) (s : State) :
    l.foldl State.envWrite s = { s with mem := (l.foldl State.envWrite s).mem } := by
  induction l generalizing s with
  | nil => rfl
  | cons w l ih => rw [List.foldl_cons, ih, State.envWrite_eq]

/-- No peripherals: nothing but the model's own fields changes (R349). -/
theorem State.peripherals_identity {s : State} (h : s.params.envStep = .identity) (n : Nat) :
    s.peripherals n = { s with envQueue := s.envQueue.tail, stepIndex := s.stepIndex + 1, lastCycles := n } := by
  simp only [State.peripherals, State.envWrites, h, List.foldl_nil]

/-- Peripherals reach no byte outside `IO`, `VRAM` and `OAM` (R349). -/
theorem State.cell_peripherals_other {s : State} {x : Loc} (hx : x.off < 0x4000)
    (h : x.buf ≠ .io ∧ x.buf ≠ .vram ∧ x.buf ≠ .oam) (n : Nat) : (s.peripherals n).cell x = s.cell x := by
  suffices ∀ (l : List EnvWrite) (s : State), (l.foldl State.envWrite s).cell x = s.cell x from this _ s
  intro l
  induction l with
  | nil => exact fun _ => rfl
  | cons w l ih => exact fun s => (ih _).trans (State.cell_envWrite_other hx h w)

/-- The peripherals change storage and the model's own fields (R349). -/
theorem State.peripherals_eq (s : State) (n : Nat) :
    s.peripherals n =
      { s with mem := (s.peripherals n).mem, envQueue := s.envQueue.tail, stepIndex := s.stepIndex + 1, lastCycles := n } := by
  unfold State.peripherals
  dsimp only
  rw [State.envWrites_eq]

theorem State.wf_peripherals {s : State} (h : s.mem.wf = true) (n : Nat) : (s.peripherals n).mem.wf = true :=
  (Keeps.foldl State.envWrite Keeps.envWrite (s.envWrites n) s).wf h

end Sys2Proof.Machine
end

