-- ==== Sys2Proof/Laws/Interrupts.lean ====
section
/-! SUPPORT. Laws of the interrupt unit: one bit of a byte, one pass of the loop, and what the loop does once `IME` is
clear. -/

namespace Sys2Proof.Machine

theorem setBit_false (v : Byte) (b : Nat) : setBit v b false = v &&& ~~~((1 : Byte) <<< b) := by simp [setBit]

theorem setBit_true (v : Byte) (b : Nat) : setBit v b true = v ||| (1 : Byte) <<< b := by
  apply BitVec.eq_of_getLsbD_eq
  intro i hi
  simp only [setBit, BitVec.getLsbD_or, BitVec.getLsbD_and, BitVec.getLsbD_not, hi, decide_true, Bool.true_and, ↓reduceIte]
  generalize v.getLsbD i = x
  generalize ((1 : Byte) <<< b).getLsbD i = y
  cases x <;> cases y <;> rfl

/-- A source that is not both enabled and requested does nothing. -/
theorem State.checkSource_idle {en fl : Byte} {i : Source} (s : State)
    (h : (en.getLsbD i.index && fl.getLsbD i.index) = false) : s.checkSource en fl i = s := by
  rw [State.checkSource, h, if_neg (by decide)]

/-- With `IME` clear it wakes, and no more. -/
theorem State.checkSource_masked {en fl : Byte} {i : Source} {s : State} (hi : s.ime = false)
    (h : (en.getLsbD i.index && fl.getLsbD i.index) = true) : s.checkSource en fl i = { s with halted := false } := by
  rw [State.checkSource, if_pos h, if_neg (by simp [hi])]

/-- With `IME` set it is serviced, and wakes. -/
theorem State.checkSource_serviced {en fl : Byte} {i : Source} {s : State} (hi : s.ime = true)
    (h : (en.getLsbD i.index && fl.getLsbD i.index) = true) :
    s.checkSource en fl i = { s.service i with halted := false } := by
  rw [State.checkSource, if_pos h, if_pos hi]

/-- Once `IME` is clear, the rest of the loop can only wake. -/
theorem State.checkSources_masked (en fl : Byte) (l : List Source) (s : State) (h : s.ime = false) :
    l.foldl (State.checkSource en fl) s =
      if l.any (fun i => en.getLsbD i.index && fl.getLsbD i.index) then { s with halted := false } else s := by
  induction l generalizing s with
  | nil => rfl
  | cons x l ih =>
    rw [List.foldl_cons]
    by_cases hx : (en.getLsbD x.index && fl.getLsbD x.index) = true
    · rw [State.checkSource_masked h hx, ih { s with halted := false } h]
      simp [hx]
    · rw [State.checkSource_idle s (Bool.eq_false_iff.2 hx), ih s h]
      simp [hx]

/-- Service leaves `IME` clear, so that one source at most is served. -/
theorem State.service_ime (s : State) (i : Source) : (s.service i).ime = false := by rw [State.service_eq]

/-- With nothing listed in storage every internal read gives the same byte. -/
theorem State.read8_empty {s : State} (h : s.mem = []) (a : Word) : s.read8 a false = 0x00 := by
  unfold State.read8
  split
  · rfl
  · simp only [Bool.false_eq_true, false_and, ↓reduceIte]
    split
    · simp [State.cell, h, Memory.unlisted]
    · rfl

end Sys2Proof.Machine
end

