-- ==== Sys2Proof/Laws/PerInstr.lean ====
section
/-! SUPPORT. One lemma per constructor of `Instr` for the statements about all instructions: the round trip of the
encoding (30_encoding R120, R121, R130, R131). -/

namespace Sys2Proof.Laws.RoundTrip

/-- Decoding the bytes of a well-formed instruction, whatever follows, gives it back and leaves what follows. -/
def Statement (i : Instr) : Prop :=
  i.wellFormed = true → ∀ rest : List Byte, decode (encode i ++ rest) = .ok (i, rest)

/-- A row with a 16-bit operand: its two bytes, low byte first, make it up again (R129). -/
theorem ofWord {f : Word → Instr} {nn : Word}
    (h : ∀ rest, decode (encode (f nn) ++ rest) = .ok (f (wordOf (loByte nn) (hiByte nn)), rest)) : Statement (f nn) := by
  intro _ rest
  rw [h rest, wordOf_loByte_hiByte]

theorem nop : Statement .nop := fun _ _ => rfl
theorem ld_BC_nn (nn : Word) : Statement (.ld_BC_nn nn) := ofWord (f := .ld_BC_nn) fun _ => rfl
theorem ld_atBC_A : Statement .ld_atBC_A := fun _ _ => rfl
theorem inc_BC : Statement .inc_BC := fun _ _ => rfl
theorem inc_B : Statement .inc_B := fun _ _ => rfl
theorem dec_B : Statement .dec_B := fun _ _ => rfl
theorem ld_B_n (n : Byte) : Statement (.ld_B_n n) := fun _ _ => rfl
theorem rlca : Statement .rlca := fun _ _ => rfl
theorem ld_atNN_SP (nn : Word) : Statement (.ld_atNN_SP nn) := ofWord (f := .ld_atNN_SP) fun _ => rfl
theorem add_HL_BC : Statement .add_HL_BC := fun _ _ => rfl
theorem ld_A_atBC : Statement .ld_A_atBC := fun _ _ => rfl
theorem dec_BC : Statement .dec_BC := fun _ _ => rfl
theorem inc_C : Statement .inc_C := fun _ _ => rfl
theorem dec_C : Statement .dec_C := fun _ _ => rfl
theorem ld_C_n (n : Byte) : Statement (.ld_C_n n) := fun _ _ => rfl
theorem rrca : Statement .rrca := fun _ _ => rfl
theorem stop (n : Byte) : Statement (.stop n) := fun _ _ => rfl
theorem ld_DE_nn (nn : Word) : Statement (.ld_DE_nn nn) := ofWord (f := .ld_DE_nn) fun _ => rfl
theorem ld_atDE_A : Statement .ld_atDE_A := fun _ _ => rfl
theorem inc_DE : Statement .inc_DE := fun _ _ => rfl
theorem inc_D : Statement .inc_D := fun _ _ => rfl
theorem dec_D : Statement .dec_D := fun _ _ => rfl
theorem ld_D_n (n : Byte) : Statement (.ld_D_n n) := fun _ _ => rfl
theorem rla : Statement .rla := fun _ _ => rfl
theorem jr (e : Byte) : Statement (.jr e) := fun _ _ => rfl
theorem add_HL_DE : Statement .add_HL_DE := fun _ _ => rfl
theorem ld_A_atDE : Statement .ld_A_atDE := fun _ _ => rfl
theorem dec_DE : Statement .dec_DE := fun _ _ => rfl
theorem inc_E : Statement .inc_E := fun _ _ => rfl
theorem dec_E : Statement .dec_E := fun _ _ => rfl
theorem ld_E_n (n : Byte) : Statement (.ld_E_n n) := fun _ _ => rfl
theorem rra : Statement .rra := fun _ _ => rfl
theorem jr_NZ (e : Byte) : Statement (.jr_NZ e) := fun _ _ => rfl
theorem ld_HL_nn (nn : Word) : Statement (.ld_HL_nn nn) := ofWord (f := .ld_HL_nn) fun _ => rfl
theorem ld_atHLinc_A : Statement .ld_atHLinc_A := fun _ _ => rfl
theorem inc_HL : Statement .inc_HL := fun _ _ => rfl
theorem inc_H : Statement .inc_H := fun _ _ => rfl
theorem dec_H : Statement .dec_H := fun _ _ => rfl
theorem ld_H_n (n : Byte) : Statement (.ld_H_n n) := fun _ _ => rfl
theorem daa : Statement .daa := fun _ _ => rfl
theorem jr_Z (e : Byte) : Statement (.jr_Z e) := fun _ _ => rfl
theorem add_HL_HL : Statement .add_HL_HL := fun _ _ => rfl
theorem ld_A_atHLinc : Statement .ld_A_atHLinc := fun _ _ => rfl
theorem dec_HL : Statement .dec_HL := fun _ _ => rfl
theorem inc_L : Statement .inc_L := fun _ _ => rfl
theorem dec_L : Statement .dec_L := fun _ _ => rfl
theorem ld_L_n (n : Byte) : Statement (.ld_L_n n) := fun _ _ => rfl
theorem cpl : Statement .cpl := fun _ _ => rfl
theorem jr_NC (e : Byte) : Statement (.jr_NC e) := fun _ _ => rfl
theorem ld_SP_nn (nn : Word) : Statement (.ld_SP_nn nn) := ofWord (f := .ld_SP_nn) fun _ => rfl
theorem ld_atHLdec_A : Statement .ld_atHLdec_A := fun _ _ => rfl
theorem inc_SP : Statement .inc_SP := fun _ _ => rfl
theorem inc_atHL : Statement .inc_atHL := fun _ _ => rfl
theorem dec_atHL : Statement .dec_atHL := fun _ _ => rfl
theorem ld_atHL_n (n : Byte) : Statement (.ld_atHL_n n) := fun _ _ => rfl
theorem scf : Statement .scf := fun _ _ => rfl
theorem jr_C (e : Byte) : Statement (.jr_C e) := fun _ _ => rfl
theorem add_HL_SP : Statement .add_HL_SP := fun _ _ => rfl
theorem ld_A_atHLdec : Statement .ld_A_atHLdec := fun _ _ => rfl
theorem dec_SP : Statement .dec_SP := fun _ _ => rfl
theorem inc_A : Statement .inc_A := fun _ _ => rfl
theorem dec_A : Statement .dec_A := fun _ _ => rfl
theorem ld_A_n (n : Byte) : Statement (.ld_A_n n) := fun _ _ => rfl
theorem ccf : Statement .ccf := fun _ _ => rfl
theorem ld_B_B : Statement .ld_B_B := fun _ _ => rfl
theorem ld_B_C : Statement .ld_B_C := fun _ _ => rfl
theorem ld_B_D : Statement .ld_B_D := fun _ _ => rfl
theorem ld_B_E : Statement .ld_B_E := fun _ _ => rfl
theorem ld_B_H : Statement .ld_B_H := fun _ _ => rfl
theorem ld_B_L : Statement .ld_B_L := fun _ _ => rfl
theorem ld_B_atHL : Statement .ld_B_atHL := fun _ _ => rfl
theorem ld_B_A : Statement .ld_B_A := fun _ _ => rfl
theorem ld_C_B : Statement .ld_C_B := fun _ _ => rfl
theorem ld_C_C : Statement .ld_C_C := fun _ _ => rfl
theorem ld_C_D : Statement .ld_C_D := fun _ _ => rfl
theorem ld_C_E : Statement .ld_C_E := fun _ _ => rfl
theorem ld_C_H : Statement .ld_C_H := fun _ _ => rfl
theorem ld_C_L : Statement .ld_C_L := fun _ _ => rfl
theorem ld_C_atHL : Statement .ld_C_atHL := fun _ _ => rfl
theorem ld_C_A : Statement .ld_C_A := fun _ _ => rfl
theorem ld_D_B : Statement .ld_D_B := fun _ _ => rfl
theorem ld_D_C : Statement .ld_D_C := fun _ _ => rfl
theorem ld_D_D : Statement .ld_D_D := fun _ _ => rfl
theorem ld_D_E : Statement .ld_D_E := fun _ _ => rfl
theorem ld_D_H : Statement .ld_D_H := fun _ _ => rfl
theorem ld_D_L : Statement .ld_D_L := fun _ _ => rfl
theorem ld_D_atHL : Statement .ld_D_atHL := fun _ _ => rfl
theorem ld_D_A : Statement .ld_D_A := fun _ _ => rfl
theorem ld_E_B : Statement .ld_E_B := fun _ _ => rfl
theorem ld_E_C : Statement .ld_E_C := fun _ _ => rfl
theorem ld_E_D : Statement .ld_E_D := fun _ _ => rfl
theorem ld_E_E : Statement .ld_E_E := fun _ _ => rfl
theorem ld_E_H : Statement .ld_E_H := fun _ _ => rfl
theorem ld_E_L : Statement .ld_E_L := fun _ _ => rfl
theorem ld_E_atHL : Statement .ld_E_atHL := fun _ _ => rfl
theorem ld_E_A : Statement .ld_E_A := fun _ _ => rfl
theorem ld_H_B : Statement .ld_H_B := fun _ _ => rfl
theorem ld_H_C : Statement .ld_H_C := fun _ _ => rfl
theorem ld_H_D : Statement .ld_H_D := fun _ _ => rfl
theorem ld_H_E : Statement .ld_H_E := fun _ _ => rfl
theorem ld_H_H : Statement .ld_H_H := fun _ _ => rfl
theorem ld_H_L : Statement .ld_H_L := fun _ _ => rfl
theorem ld_H_atHL : Statement .ld_H_atHL := fun _ _ => rfl
theorem ld_H_A : Statement .ld_H_A := fun _ _ => rfl
theorem ld_L_B : Statement .ld_L_B := fun _ _ => rfl
theorem ld_L_C : Statement .ld_L_C := fun _ _ => rfl
theorem ld_L_D : Statement .ld_L_D := fun _ _ => rfl
theorem ld_L_E : Statement .ld_L_E := fun _ _ => rfl
theorem ld_L_H : Statement .ld_L_H := fun _ _ => rfl
theorem ld_L_L : Statement .ld_L_L := fun _ _ => rfl
theorem ld_L_atHL : Statement .ld_L_atHL := fun _ _ => rfl
theorem ld_L_A : Statement .ld_L_A := fun _ _ => rfl
theorem ld_atHL_B : Statement .ld_atHL_B := fun _ _ => rfl
theorem ld_atHL_C : Statement .ld_atHL_C := fun _ _ => rfl
theorem ld_atHL_D : Statement .ld_atHL_D := fun _ _ => rfl
theorem ld_atHL_E : Statement .ld_atHL_E := fun _ _ => rfl
theorem ld_atHL_H : Statement .ld_atHL_H := fun _ _ => rfl
theorem ld_atHL_L : Statement .ld_atHL_L := fun _ _ => rfl
theorem halt : Statement .halt := fun _ _ => rfl
theorem ld_atHL_A : Statement .ld_atHL_A := fun _ _ => rfl
theorem ld_A_B : Statement .ld_A_B := fun _ _ => rfl
theorem ld_A_C : Statement .ld_A_C := fun _ _ => rfl
theorem ld_A_D : Statement .ld_A_D := fun _ _ => rfl
theorem ld_A_E : Statement .ld_A_E := fun _ _ => rfl
theorem ld_A_H : Statement .ld_A_H := fun _ _ => rfl
theorem ld_A_L : Statement .ld_A_L := fun _ _ => rfl
theorem ld_A_atHL : Statement .ld_A_atHL := fun _ _ => rfl
theorem ld_A_A : Statement .ld_A_A := fun _ _ => rfl
theorem add_A_B : Statement .add_A_B := fun _ _ => rfl
theorem add_A_C : Statement .add_A_C := fun _ _ => rfl
theorem add_A_D : Statement .add_A_D := fun _ _ => rfl
theorem add_A_E : Statement .add_A_E := fun _ _ => rfl
theorem add_A_H : Statement .add_A_H := fun _ _ => rfl
theorem add_A_L : Statement .add_A_L := fun _ _ => rfl
theorem add_A_atHL : Statement .add_A_atHL := fun _ _ => rfl
theorem add_A_A : Statement .add_A_A := fun _ _ => rfl
theorem adc_A_B : Statement .adc_A_B := fun _ _ => rfl
theorem adc_A_C : Statement .adc_A_C := fun _ _ => rfl
theorem adc_A_D : Statement .adc_A_D := fun _ _ => rfl
theorem adc_A_E : Statement .adc_A_E := fun _ _ => rfl
theorem adc_A_H : Statement .adc_A_H := fun _ _ => rfl
theorem adc_A_L : Statement .adc_A_L := fun _ _ => rfl
theorem adc_A_atHL : Statement .adc_A_atHL := fun _ _ => rfl
theorem adc_A_A : Statement .adc_A_A := fun _ _ => rfl
theorem sub_A_B : Statement .sub_A_B := fun _ _ => rfl
theorem sub_A_C : Statement .sub_A_C := fun _ _ => rfl
theorem sub_A_D : Statement .sub_A_D := fun _ _ => rfl
theorem sub_A_E : Statement .sub_A_E := fun _ _ => rfl
theorem sub_A_H : Statement .sub_A_H := fun _ _ => rfl
theorem sub_A_L : Statement .sub_A_L := fun _ _ => rfl
theorem sub_A_atHL : Statement .sub_A_atHL := fun _ _ => rfl
theorem sub_A_A : Statement .sub_A_A := fun _ _ => rfl
theorem sbc_A_B : Statement .sbc_A_B := fun _ _ => rfl
theorem sbc_A_C : Statement .sbc_A_C := fun _ _ => rfl
theorem sbc_A_D : Statement .sbc_A_D := fun _ _ => rfl
theorem sbc_A_E : Statement .sbc_A_E := fun _ _ => rfl
theorem sbc_A_H : Statement .sbc_A_H := fun _ _ => rfl
theorem sbc_A_L : Statement .sbc_A_L := fun _ _ => rfl
theorem sbc_A_atHL : Statement .sbc_A_atHL := fun _ _ => rfl
theorem sbc_A_A : Statement .sbc_A_A := fun _ _ => rfl
theorem and_A_B : Statement .and_A_B := fun _ _ => rfl
theorem and_A_C : Statement .and_A_C := fun _ _ => rfl
theorem and_A_D : Statement .and_A_D := fun _ _ => rfl
theorem and_A_E : Statement .and_A_E := fun _ _ => rfl
theorem and_A_H : Statement .and_A_H := fun _ _ => rfl
theorem and_A_L : Statement .and_A_L := fun _ _ => rfl
theorem and_A_atHL : Statement .and_A_atHL := fun _ _ => rfl
theorem and_A_A : Statement .and_A_A := fun _ _ => rfl
theorem xor_A_B : Statement .xor_A_B := fun _ _ => rfl
theorem xor_A_C : Statement .xor_A_C := fun _ _ => rfl
theorem xor_A_D : Statement .xor_A_D := fun _ _ => rfl
theorem xor_A_E : Statement .xor_A_E := fun _ _ => rfl
theorem xor_A_H : Statement .xor_A_H := fun _ _ => rfl
theorem xor_A_L : Statement .xor_A_L := fun _ _ => rfl
theorem xor_A_atHL : Statement .xor_A_atHL := fun _ _ => rfl
theorem xor_A_A : Statement .xor_A_A := fun _ _ => rfl
theorem or_A_B : Statement .or_A_B := fun _ _ => rfl
theorem or_A_C : Statement .or_A_C := fun _ _ => rfl
theorem or_A_D : Statement .or_A_D := fun _ _ => rfl
theorem or_A_E : Statement .or_A_E := fun _ _ => rfl
theorem or_A_H : Statement .or_A_H := fun _ _ => rfl
theorem or_A_L : Statement .or_A_L := fun _ _ => rfl
theorem or_A_atHL : Statement .or_A_atHL := fun _ _ => rfl
theorem or_A_A : Statement .or_A_A := fun _ _ => rfl
theorem cp_A_B : Statement .cp_A_B := fun _ _ => rfl
theorem cp_A_C : Statement .cp_A_C := fun _ _ => rfl
theorem cp_A_D : Statement .cp_A_D := fun _ _ => rfl
theorem cp_A_E : Statement .cp_A_E := fun _ _ => rfl
theorem cp_A_H : Statement .cp_A_H := fun _ _ => rfl
theorem cp_A_L : Statement .cp_A_L := fun _ _ => rfl
theorem cp_A_atHL : Statement .cp_A_atHL := fun _ _ => rfl
theorem cp_A_A : Statement .cp_A_A := fun _ _ => rfl
theorem ret_NZ : Statement .ret_NZ := fun _ _ => rfl
theorem pop_BC : Statement .pop_BC := fun _ _ => rfl
theorem jp_NZ (nn : Word) : Statement (.jp_NZ nn) := ofWord (f := .jp_NZ) fun _ => rfl
theorem jp (nn : Word) : Statement (.jp nn) := ofWord (f := .jp) fun _ => rfl
theorem call_NZ (nn : Word) : Statement (.call_NZ nn) := ofWord (f := .call_NZ) fun _ => rfl
theorem push_BC : Statement .push_BC := fun _ _ => rfl
theorem add_A_n (n : Byte) : Statement (.add_A_n n) := fun _ _ => rfl
theorem rst_00 : Statement .rst_00 := fun _ _ => rfl
theorem ret_Z : Statement .ret_Z := fun _ _ => rfl
theorem ret : Statement .ret := fun _ _ => rfl
theorem jp_Z (nn : Word) : Statement (.jp_Z nn) := ofWord (f := .jp_Z) fun _ => rfl
theorem prefixCB (op2 : Byte) : Statement (.prefixCB op2) := fun h => nomatch h
theorem call_Z (nn : Word) : Statement (.call_Z nn) := ofWord (f := .call_Z) fun _ => rfl
theorem call (nn : Word) : Statement (.call nn) := ofWord (f := .call) fun _ => rfl
theorem adc_A_n (n : Byte) : Statement (.adc_A_n n) := fun _ _ => rfl
theorem rst_08 : Statement .rst_08 := fun _ _ => rfl
theorem ret_NC : Statement .ret_NC := fun _ _ => rfl
theorem pop_DE : Statement .pop_DE := fun _ _ => rfl
theorem jp_NC (nn : Word) : Statement (.jp_NC nn) := ofWord (f := .jp_NC) fun _ => rfl
theorem illegal_D3 : Statement .illegal_D3 := fun _ _ => rfl
theorem call_NC (nn : Word) : Statement (.call_NC nn) := ofWord (f := .call_NC) fun _ => rfl
theorem push_DE : Statement .push_DE := fun _ _ => rfl
theorem sub_A_n (n : Byte) : Statement (.sub_A_n n) := fun _ _ => rfl
theorem rst_10 : Statement .rst_10 := fun _ _ => rfl
theorem ret_C : Statement .ret_C := fun _ _ => rfl
theorem reti : Statement .reti := fun _ _ => rfl
theorem jp_C (nn : Word) : Statement (.jp_C nn) := ofWord (f := .jp_C) fun _ => rfl
theorem illegal_DB : Statement .illegal_DB := fun _ _ => rfl
theorem call_C (nn : Word) : Statement (.call_C nn) := ofWord (f := .call_C) fun _ => rfl
theorem illegal_DD : Statement .illegal_DD := fun _ _ => rfl
theorem sbc_A_n (n : Byte) : Statement (.sbc_A_n n) := fun _ _ => rfl
theorem rst_18 : Statement .rst_18 := fun _ _ => rfl
theorem ldh_atN_A (n : Byte) : Statement (.ldh_atN_A n) := fun _ _ => rfl
theorem pop_HL : Statement .pop_HL := fun _ _ => rfl
theorem ldh_atC_A : Statement .ldh_atC_A := fun _ _ => rfl
theorem illegal_E3 : Statement .illegal_E3 := fun _ _ => rfl
theorem illegal_E4 : Statement .illegal_E4 := fun _ _ => rfl
theorem push_HL : Statement .push_HL := fun _ _ => rfl
theorem and_A_n (n : Byte) : Statement (.and_A_n n) := fun _ _ => rfl
theorem rst_20 : Statement .rst_20 := fun _ _ => rfl
theorem add_SP_e (e : Byte) : Statement (.add_SP_e e) := fun _ _ => rfl
theorem jp_HL : Statement .jp_HL := fun _ _ => rfl
theorem ld_atNN_A (nn : Word) : Statement (.ld_atNN_A nn) := ofWord (f := .ld_atNN_A) fun _ => rfl
theorem illegal_EB : Statement .illegal_EB := fun _ _ => rfl
theorem illegal_EC : Statement .illegal_EC := fun _ _ => rfl
theorem illegal_ED : Statement .illegal_ED := fun _ _ => rfl
theorem xor_A_n (n : Byte) : Statement (.xor_A_n n) := fun _ _ => rfl
theorem rst_28 : Statement .rst_28 := fun _ _ => rfl
theorem ldh_A_atN (n : Byte) : Statement (.ldh_A_atN n) := fun _ _ => rfl
theorem pop_AF : Statement .pop_AF := fun _ _ => rfl
theorem ldh_A_atC : Statement .ldh_A_atC := fun _ _ => rfl
theorem di : Statement .di := fun _ _ => rfl
theorem illegal_F4 : Statement .illegal_F4 := fun _ _ => rfl
theorem push_AF : Statement .push_AF := fun _ _ => rfl
theorem or_A_n (n : Byte) : Statement (.or_A_n n) := fun _ _ => rfl
theorem rst_30 : Statement .rst_30 := fun _ _ => rfl
theorem ld_HL_SPe (e : Byte) : Statement (.ld_HL_SPe e) := fun _ _ => rfl
theorem ld_SP_HL : Statement .ld_SP_HL := fun _ _ => rfl
theorem ld_A_atNN (nn : Word) : Statement (.ld_A_atNN nn) := ofWord (f := .ld_A_atNN) fun _ => rfl
theorem ei : Statement .ei := fun _ _ => rfl
theorem illegal_FC : Statement .illegal_FC := fun _ _ => rfl
theorem illegal_FD : Statement .illegal_FD := fun _ _ => rfl
theorem cp_A_n (n : Byte) : Statement (.cp_A_n n) := fun _ _ => rfl
theorem rst_38 : Statement .rst_38 := fun _ _ => rfl
theorem rlc_B : Statement .rlc_B := fun _ _ => rfl
theorem rlc_C : Statement .rlc_C := fun _ _ => rfl
theorem rlc_D : Statement .rlc_D := fun _ _ => rfl
theorem rlc_E : Statement .rlc_E := fun _ _ => rfl
theorem rlc_H : Statement .rlc_H := fun _ _ => rfl
theorem rlc_L : Statement .rlc_L := fun _ _ => rfl
theorem rlc_atHL : Statement .rlc_atHL := fun _ _ => rfl
theorem rlc_A : Statement .rlc_A := fun _ _ => rfl
theorem rrc_B : Statement .rrc_B := fun _ _ => rfl
theorem rrc_C : Statement .rrc_C := fun _ _ => rfl
theorem rrc_D : Statement .rrc_D := fun _ _ => rfl
theorem rrc_E : Statement .rrc_E := fun _ _ => rfl
theorem rrc_H : Statement .rrc_H := fun _ _ => rfl
theorem rrc_L : Statement .rrc_L := fun _ _ => rfl
theorem rrc_atHL : Statement .rrc_atHL := fun _ _ => rfl
theorem rrc_A : Statement .rrc_A := fun _ _ => rfl
theorem rl_B : Statement .rl_B := fun _ _ => rfl
theorem rl_C : Statement .rl_C := fun _ _ => rfl
theorem rl_D : Statement .rl_D := fun _ _ => rfl
theorem rl_E : Statement .rl_E := fun _ _ => rfl
theorem rl_H : Statement .rl_H := fun _ _ => rfl
theorem rl_L : Statement .rl_L := fun _ _ => rfl
theorem rl_atHL : Statement .rl_atHL := fun _ _ => rfl
theorem rl_A : Statement .rl_A := fun _ _ => rfl
theorem rr_B : Statement .rr_B := fun _ _ => rfl
theorem rr_C : Statement .rr_C := fun _ _ => rfl
theorem rr_D : Statement .rr_D := fun _ _ => rfl
theorem rr_E : Statement .rr_E := fun _ _ => rfl
theorem rr_H : Statement .rr_H := fun _ _ => rfl
theorem rr_L : Statement .rr_L := fun _ _ => rfl
theorem rr_atHL : Statement .rr_atHL := fun _ _ => rfl
theorem rr_A : Statement .rr_A := fun _ _ => rfl
theorem sla_B : Statement .sla_B := fun _ _ => rfl
theorem sla_C : Statement .sla_C := fun _ _ => rfl
theorem sla_D : Statement .sla_D := fun _ _ => rfl
theorem sla_E : Statement .sla_E := fun _ _ => rfl
theorem sla_H : Statement .sla_H := fun _ _ => rfl
theorem sla_L : Statement .sla_L := fun _ _ => rfl
theorem sla_atHL : Statement .sla_atHL := fun _ _ => rfl
theorem sla_A : Statement .sla_A := fun _ _ => rfl
theorem sra_B : Statement .sra_B := fun _ _ => rfl
theorem sra_C : Statement .sra_C := fun _ _ => rfl
theorem sra_D : Statement .sra_D := fun _ _ => rfl
theorem sra_E : Statement .sra_E := fun _ _ => rfl
theorem sra_H : Statement .sra_H := fun _ _ => rfl
theorem sra_L : Statement .sra_L := fun _ _ => rfl
theorem sra_atHL : Statement .sra_atHL := fun _ _ => rfl
theorem sra_A : Statement .sra_A := fun _ _ => rfl
theorem swap_B : Statement .swap_B := fun _ _ => rfl
theorem swap_C : Statement .swap_C := fun _ _ => rfl
theorem swap_D : Statement .swap_D := fun _ _ => rfl
theorem swap_E : Statement .swap_E := fun _ _ => rfl
theorem swap_H : Statement .swap_H := fun _ _ => rfl
theorem swap_L : Statement .swap_L := fun _ _ => rfl
theorem swap_atHL : Statement .swap_atHL := fun _ _ => rfl
theorem swap_A : Statement .swap_A := fun _ _ => rfl
theorem srl_B : Statement .srl_B := fun _ _ => rfl
theorem srl_C : Statement .srl_C := fun _ _ => rfl
theorem srl_D : Statement .srl_D := fun _ _ => rfl
theorem srl_E : Statement .srl_E := fun _ _ => rfl
theorem srl_H : Statement .srl_H := fun _ _ => rfl
theorem srl_L : Statement .srl_L := fun _ _ => rfl
theorem srl_atHL : Statement .srl_atHL := fun _ _ => rfl
theorem srl_A : Statement .srl_A := fun _ _ => rfl
theorem bit0_B : Statement .bit0_B := fun _ _ => rfl
theorem bit0_C : Statement .bit0_C := fun _ _ => rfl
theorem bit0_D : Statement .bit0_D := fun _ _ => rfl
theorem bit0_E : Statement .bit0_E := fun _ _ => rfl
theorem bit0_H : Statement .bit0_H := fun _ _ => rfl
theorem bit0_L : Statement .bit0_L := fun _ _ => rfl
theorem bit0_atHL : Statement .bit0_atHL := fun _ _ => rfl
theorem bit0_A : Statement .bit0_A := fun _ _ => rfl
theorem bit1_B : Statement .bit1_B := fun _ _ => rfl
theorem bit1_C : Statement .bit1_C := fun _ _ => rfl
theorem bit1_D : Statement .bit1_D := fun _ _ => rfl
theorem bit1_E : Statement .bit1_E := fun _ _ => rfl
theorem bit1_H : Statement .bit1_H := fun _ _ => rfl
theorem bit1_L : Statement .bit1_L := fun _ _ => rfl
theorem bit1_atHL : Statement .bit1_atHL := fun _ _ => rfl
theorem bit1_A : Statement .bit1_A := fun _ _ => rfl
theorem bit2_B : Statement .bit2_B := fun _ _ => rfl
theorem bit2_C : Statement .bit2_C := fun _ _ => rfl
theorem bit2_D : Statement .bit2_D := fun _ _ => rfl
theorem bit2_E : Statement .bit2_E := fun _ _ => rfl
theorem bit2_H : Statement .bit2_H := fun _ _ => rfl
theorem bit2_L : Statement .bit2_L := fun _ _ => rfl
theorem bit2_atHL : Statement .bit2_atHL := fun _ _ => rfl
theorem bit2_A : Statement .bit2_A := fun _ _ => rfl
theorem bit3_B : Statement .bit3_B := fun _ _ => rfl
theorem bit3_C : Statement .bit3_C := fun _ _ => rfl
theorem bit3_D : Statement .bit3_D := fun _ _ => rfl
theorem bit3_E : Statement .bit3_E := fun _ _ => rfl
theorem bit3_H : Statement .bit3_H := fun _ _ => rfl
theorem bit3_L : Statement .bit3_L := fun _ _ => rfl
theorem bit3_atHL : Statement .bit3_atHL := fun _ _ => rfl
theorem bit3_A : Statement .bit3_A := fun _ _ => rfl
theorem bit4_B : Statement .bit4_B := fun _ _ => rfl
theorem bit4_C : Statement .bit4_C := fun _ _ => rfl
theorem bit4_D : Statement .bit4_D := fun _ _ => rfl
theorem bit4_E : Statement .bit4_E := fun _ _ => rfl
theorem bit4_H : Statement .bit4_H := fun _ _ => rfl
theorem bit4_L : Statement .bit4_L := fun _ _ => rfl
theorem bit4_atHL : Statement .bit4_atHL := fun _ _ => rfl
theorem bit4_A : Statement .bit4_A := fun _ _ => rfl
theorem bit5_B : Statement .bit5_B := fun _ _ => rfl
theorem bit5_C : Statement .bit5_C := fun _ _ => rfl
theorem bit5_D : Statement .bit5_D := fun _ _ => rfl
theorem bit5_E : Statement .bit5_E := fun _ _ => rfl
theorem bit5_H : Statement .bit5_H := fun _ _ => rfl
theorem bit5_L : Statement .bit5_L := fun _ _ => rfl
theorem bit5_atHL : Statement .bit5_atHL := fun _ _ => rfl
theorem bit5_A : Statement .bit5_A := fun _ _ => rfl
theorem bit6_B : Statement .bit6_B := fun _ _ => rfl
theorem bit6_C : Statement .bit6_C := fun _ _ => rfl
theorem bit6_D : Statement .bit6_D := fun _ _ => rfl
theorem bit6_E : Statement .bit6_E := fun _ _ => rfl
theorem bit6_H : Statement .bit6_H := fun _ _ => rfl
theorem bit6_L : Statement .bit6_L := fun _ _ => rfl
theorem bit6_atHL : Statement .bit6_atHL := fun _ _ => rfl
theorem bit6_A : Statement .bit6_A := fun _ _ => rfl
theorem bit7_B : Statement .bit7_B := fun _ _ => rfl
theorem bit7_C : Statement .bit7_C := fun _ _ => rfl
theorem bit7_D : Statement .bit7_D := fun _ _ => rfl
theorem bit7_E : Statement .bit7_E := fun _ _ => rfl
theorem bit7_H : Statement .bit7_H := fun _ _ => rfl
theorem bit7_L : Statement .bit7_L := fun _ _ => rfl
theorem bit7_atHL : Statement .bit7_atHL := fun _ _ => rfl
theorem bit7_A : Statement .bit7_A := fun _ _ => rfl
theorem res0_B : Statement .res0_B := fun _ _ => rfl
theorem res0_C : Statement .res0_C := fun _ _ => rfl
theorem res0_D : Statement .res0_D := fun _ _ => rfl
theorem res0_E : Statement .res0_E := fun _ _ => rfl
theorem res0_H : Statement .res0_H := fun _ _ => rfl
theorem res0_L : Statement .res0_L := fun _ _ => rfl
theorem res0_atHL : Statement .res0_atHL := fun _ _ => rfl
theorem res0_A : Statement .res0_A := fun _ _ => rfl
theorem res1_B : Statement .res1_B := fun _ _ => rfl
theorem res1_C : Statement .res1_C := fun _ _ => rfl
theorem res1_D : Statement .res1_D := fun _ _ => rfl
theorem res1_E : Statement .res1_E := fun _ _ => rfl
theorem res1_H : Statement .res1_H := fun _ _ => rfl
theorem res1_L : Statement .res1_L := fun _ _ => rfl
theorem res1_atHL : Statement .res1_atHL := fun _ _ => rfl
theorem res1_A : Statement .res1_A := fun _ _ => rfl
theorem res2_B : Statement .res2_B := fun _ _ => rfl
theorem res2_C : Statement .res2_C := fun _ _ => rfl
theorem res2_D : Statement .res2_D := fun _ _ => rfl
theorem res2_E : Statement .res2_E := fun _ _ => rfl
theorem res2_H : Statement .res2_H := fun _ _ => rfl
theorem res2_L : Statement .res2_L := fun _ _ => rfl
theorem res2_atHL : Statement .res2_atHL := fun _ _ => rfl
theorem res2_A : Statement .res2_A := fun _ _ => rfl
theorem res3_B : Statement .res3_B := fun _ _ => rfl
theorem res3_C : Statement .res3_C := fun _ _ => rfl
theorem res3_D : Statement .res3_D := fun _ _ => rfl
theorem res3_E : Statement .res3_E := fun _ _ => rfl
theorem res3_H : Statement .res3_H := fun _ _ => rfl
theorem res3_L : Statement .res3_L := fun _ _ => rfl
theorem res3_atHL : Statement .res3_atHL := fun _ _ => rfl
theorem res3_A : Statement .res3_A := fun _ _ => rfl
theorem res4_B : Statement .res4_B := fun _ _ => rfl
theorem res4_C : Statement .res4_C := fun _ _ => rfl
theorem res4_D : Statement .res4_D := fun _ _ => rfl
theorem res4_E : Statement .res4_E := fun _ _ => rfl
theorem res4_H : Statement .res4_H := fun _ _ => rfl
theorem res4_L : Statement .res4_L := fun _ _ => rfl
theorem res4_atHL : Statement .res4_atHL := fun _ _ => rfl
theorem res4_A : Statement .res4_A := fun _ _ => rfl
theorem res5_B : Statement .res5_B := fun _ _ => rfl
theorem res5_C : Statement .res5_C := fun _ _ => rfl
theorem res5_D : Statement .res5_D := fun _ _ => rfl
theorem res5_E : Statement .res5_E := fun _ _ => rfl
theorem res5_H : Statement .res5_H := fun _ _ => rfl
theorem res5_L : Statement .res5_L := fun _ _ => rfl
theorem res5_atHL : Statement .res5_atHL := fun _ _ => rfl
theorem res5_A : Statement .res5_A := fun _ _ => rfl
theorem res6_B : Statement .res6_B := fun _ _ => rfl
theorem res6_C : Statement .res6_C := fun _ _ => rfl
theorem res6_D : Statement .res6_D := fun _ _ => rfl
theorem res6_E : Statement .res6_E := fun _ _ => rfl
theorem res6_H : Statement .res6_H := fun _ _ => rfl
theorem res6_L : Statement .res6_L := fun _ _ => rfl
theorem res6_atHL : Statement .res6_atHL := fun _ _ => rfl
theorem res6_A : Statement .res6_A := fun _ _ => rfl
theorem res7_B : Statement .res7_B := fun _ _ => rfl
theorem res7_C : Statement .res7_C := fun _ _ => rfl
theorem res7_D : Statement .res7_D := fun _ _ => rfl
theorem res7_E : Statement .res7_E := fun _ _ => rfl
theorem res7_H : Statement .res7_H := fun _ _ => rfl
theorem res7_L : Statement .res7_L := fun _ _ => rfl
theorem res7_atHL : Statement .res7_atHL := fun _ _ => rfl
theorem res7_A : Statement .res7_A := fun _ _ => rfl
theorem set0_B : Statement .set0_B := fun _ _ => rfl
theorem set0_C : Statement .set0_C := fun _ _ => rfl
theorem set0_D : Statement .set0_D := fun _ _ => rfl
theorem set0_E : Statement .set0_E := fun _ _ => rfl
theorem set0_H : Statement .set0_H := fun _ _ => rfl
theorem set0_L : Statement .set0_L := fun _ _ => rfl
theorem set0_atHL : Statement .set0_atHL := fun _ _ => rfl
theorem set0_A : Statement .set0_A := fun _ _ => rfl
theorem set1_B : Statement .set1_B := fun _ _ => rfl
theorem set1_C : Statement .set1_C := fun _ _ => rfl
theorem set1_D : Statement .set1_D := fun _ _ => rfl
theorem set1_E : Statement .set1_E := fun _ _ => rfl
theorem set1_H : Statement .set1_H := fun _ _ => rfl
theorem set1_L : Statement .set1_L := fun _ _ => rfl
theorem set1_atHL : Statement .set1_atHL := fun _ _ => rfl
theorem set1_A : Statement .set1_A := fun _ _ => rfl
theorem set2_B : Statement .set2_B := fun _ _ => rfl
theorem set2_C : Statement .set2_C := fun _ _ => rfl
theorem set2_D : Statement .set2_D := fun _ _ => rfl
theorem set2_E : Statement .set2_E := fun _ _ => rfl
theorem set2_H : Statement .set2_H := fun _ _ => rfl
theorem set2_L : Statement .set2_L := fun _ _ => rfl
theorem set2_atHL : Statement .set2_atHL := fun _ _ => rfl
theorem set2_A : Statement .set2_A := fun _ _ => rfl
theorem set3_B : Statement .set3_B := fun _ _ => rfl
theorem set3_C : Statement .set3_C := fun _ _ => rfl
theorem set3_D : Statement .set3_D := fun _ _ => rfl
theorem set3_E : Statement .set3_E := fun _ _ => rfl
theorem set3_H : Statement .set3_H := fun _ _ => rfl
theorem set3_L : Statement .set3_L := fun _ _ => rfl
theorem set3_atHL : Statement .set3_atHL := fun _ _ => rfl
theorem set3_A : Statement .set3_A := fun _ _ => rfl
theorem set4_B : Statement .set4_B := fun _ _ => rfl
theorem set4_C : Statement .set4_C := fun _ _ => rfl
theorem set4_D : Statement .set4_D := fun _ _ => rfl
theorem set4_E : Statement .set4_E := fun _ _ => rfl
theorem set4_H : Statement .set4_H := fun _ _ => rfl
theorem set4_L : Statement .set4_L := fun _ _ => rfl
theorem set4_atHL : Statement .set4_atHL := fun _ _ => rfl
theorem set4_A : Statement .set4_A := fun _ _ => rfl
theorem set5_B : Statement .set5_B := fun _ _ => rfl
theorem set5_C : Statement .set5_C := fun _ _ => rfl
theorem set5_D : Statement .set5_D := fun _ _ => rfl
theorem set5_E : Statement .set5_E := fun _ _ => rfl
theorem set5_H : Statement .set5_H := fun _ _ => rfl
theorem set5_L : Statement .set5_L := fun _ _ => rfl
theorem set5_atHL : Statement .set5_atHL := fun _ _ => rfl
theorem set5_A : Statement .set5_A := fun _ _ => rfl
theorem set6_B : Statement .set6_B := fun _ _ => rfl
theorem set6_C : Statement .set6_C := fun _ _ => rfl
theorem set6_D : Statement .set6_D := fun _ _ => rfl
theorem set6_E : Statement .set6_E := fun _ _ => rfl
theorem set6_H : Statement .set6_H := fun _ _ => rfl
theorem set6_L : Statement .set6_L := fun _ _ => rfl
theorem set6_atHL : Statement .set6_atHL := fun _ _ => rfl
theorem set6_A : Statement .set6_A := fun _ _ => rfl
theorem set7_B : Statement .set7_B := fun _ _ => rfl
theorem set7_C : Statement .set7_C := fun _ _ => rfl
theorem set7_D : Statement .set7_D := fun _ _ => rfl
theorem set7_E : Statement .set7_E := fun _ _ => rfl
theorem set7_H : Statement .set7_H := fun _ _ => rfl
theorem set7_L : Statement .set7_L := fun _ _ => rfl
theorem set7_atHL : Statement .set7_atHL := fun _ _ => rfl
theorem set7_A : Statement .set7_A := fun _ _ => rfl

end Sys2Proof.Laws.RoundTrip
end

