-- ==== Sys2Proof/Laws/Step.lean ====
section
/-! SUPPORT. Laws of `execute_one` and of the step: what a next state of each comes from. -/

namespace Sys2Proof.Machine

/-- A next state of `execute_one`: the same state if halted, else that of the fetched instruction. -/
theorem State.executeOne_cases {s u : State} {n : Nat} (h : s.executeOne = .next (u, n)) :
    (s.halted = true ∧ u = s ∧ n = Config.haltCost) ∨
      (s.halted = false ∧ exec s.fetch (s.advancePC s.fetch) = .next u ∧ n = s.reportedCycles s.fetch) := by
  unfold State.executeOne at h
  cases hh : s.halted with
  | true =>
    rw [hh, if_pos rfl] at h
    cases h
    exact .inl ⟨rfl, rfl, rfl⟩
  | false =>
    rw [hh, if_neg (by decide)] at h
    split at h
    · rename_i t ht
      cases h
      exact .inr ⟨rfl, ht, rfl⟩
    · cases h
    · cases h

/-- A next state of a step: `check_interrupt`, `execute_one`, the timer and the peripherals (R320). -/
theorem step_cases {s t : State} (h : step s = .next t) :
    ∃ u n, s.checkInterrupt.executeOne = .next (u, n) ∧ t = u.endStep n := by
  unfold step at h
  split at h
  · rename_i u n hu
    cases h
    exact ⟨u, n, hu, rfl⟩
  · cases h
  · cases h

theorem Keeps.executeOne {s u : State} {n : Nat} (h : s.executeOne = .next (u, n)) : Keeps s u := by
  rcases State.executeOne_cases h with ⟨-, rfl, -⟩ | ⟨-, he, -⟩
  · exact .rfl' _
  · exact (Keeps.pc s _).trans (Keeps.exec he)

/-- What a step keeps up to the end of the timer's count. -/
theorem Keeps.beforePeripherals {s u : State} {n : Nat} (h : s.checkInterrupt.executeOne = .next (u, n)) :
    Keeps s (u.tickTimer n) :=
  ((Keeps.checkInterrupt s).trans (Keeps.executeOne h)).trans (Keeps.tickTimer u n)

theorem State.fetch_opcode (s : State) : s.fetch.opcode = s.memRead s.pc := Laws.decodeAt_opcode _ _ _

/-- `PC` advanced by the fetched instruction is where its operand bytes are read, but for a 0xCB pair (R300). -/
theorem State.advancePC_fetch {s : State} (h : s.memRead s.pc ≠ 0xCB) :
    s.advancePC s.fetch = s.operandState (s.memRead s.pc) := by
  rw [State.operandState, if_neg h, State.advancePC, Instr.length, s.fetch_opcode]

/-- The instruction fetched is the one the decoder reads from the bytes at `PC`. -/
theorem State.fetch_of_decode {s : State} {i : Instr} {rest : List Byte}
    (h : decode [s.read8 s.pc true, (s.operandState (s.read8 s.pc true)).read8 (s.pc + 1) true,
      (s.operandState (s.read8 s.pc true)).read8 (s.pc + 2) true] = .ok (i, rest)) : s.fetch = i := by
  rw [Laws.decode_three] at h
  exact (Prod.mk.inj (Except.ok.inj h)).1

end Sys2Proof.Machine
end

