-- ==== Sys2Proof/Tests/Slice0.lean ====
section
/-! SUPPORT. Tests: the smoke test of WellFormed, every row of the opcode table decoded, single steps with the spec's own
numbers (spec/95_test_vectors.md, whose vector a test's comment names), and for each claim with hypotheses a theorem that
shows them met. -/

set_option Elab.async false

namespace Sys2Proof.Tests

open Sys2Proof.Machine Sys2Proof.Safety

/-! ### WellFormed -/

/-- The byte 0xCB alone is no instruction (R120). -/
theorem test_wellFormed_refuses_bare_prefix : (Instr.prefixCB 0x37).wellFormed = false := by decide

theorem test_wellFormed_accepts_the_others :
    Instr.nop.wellFormed = true ∧ Instr.swap_A.wellFormed = true ∧ (Instr.stop 0xDD).wellFormed = true ∧
      Instr.illegal_DD.wellFormed = true := by decide

/-! ### Decoding

The words are the match values of spec/opcode_table.json, operand bytes 0x12 and 0x34 after them. -/

/-- A row's word decodes to its instruction. -/
def decodes (x : Nat × Nat × Instr) : Bool := decide (decodeTableWord x.1 x.2.1 = some x.2.2)

theorem test_decode_primary_0x :
    [(8, 0x00, .nop), (24, 0x341201, .ld_BC_nn 0x3412), (8, 0x02, .ld_atBC_A), (8, 0x03, .inc_BC),
     (8, 0x04, .inc_B), (8, 0x05, .dec_B), (16, 0x1206, .ld_B_n 0x12), (8, 0x07, .rlca),
     (24, 0x341208, .ld_atNN_SP 0x3412), (8, 0x09, .add_HL_BC), (8, 0x0A, .ld_A_atBC), (8, 0x0B, .dec_BC),
     (8, 0x0C, .inc_C), (8, 0x0D, .dec_C), (16, 0x120E, .ld_C_n 0x12),
     (8, 0x0F, .rrca)].all decodes = true := by decide +kernel

theorem test_decode_primary_1x :
    [(16, 0x1210, .stop 0x12), (24, 0x341211, .ld_DE_nn 0x3412), (8, 0x12, .ld_atDE_A), (8, 0x13, .inc_DE),
     (8, 0x14, .inc_D), (8, 0x15, .dec_D), (16, 0x1216, .ld_D_n 0x12), (8, 0x17, .rla), (16, 0x1218, .jr 0x12),
     (8, 0x19, .add_HL_DE), (8, 0x1A, .ld_A_atDE), (8, 0x1B, .dec_DE), (8, 0x1C, .inc_E), (8, 0x1D, .dec_E),
     (16, 0x121E, .ld_E_n 0x12), (8, 0x1F, .rra)].all decodes = true := by decide +kernel

theorem test_decode_primary_2x :
    [(16, 0x1220, .jr_NZ 0x12), (24, 0x341221, .ld_HL_nn 0x3412), (8, 0x22, .ld_atHLinc_A), (8, 0x23, .inc_HL),
     (8, 0x24, .inc_H), (8, 0x25, .dec_H), (16, 0x1226, .ld_H_n 0x12), (8, 0x27, .daa), (16, 0x1228, .jr_Z 0x12),
     (8, 0x29, .add_HL_HL), (8, 0x2A, .ld_A_atHLinc), (8, 0x2B, .dec_HL), (8, 0x2C, .inc_L), (8, 0x2D, .dec_L),
     (16, 0x122E, .ld_L_n 0x12), (8, 0x2F, .cpl)].all decodes = true := by decide +kernel

theorem test_decode_primary_3x :
    [(16, 0x1230, .jr_NC 0x12), (24, 0x341231, .ld_SP_nn 0x3412), (8, 0x32, .ld_atHLdec_A), (8, 0x33, .inc_SP),
     (8, 0x34, .inc_atHL), (8, 0x35, .dec_atHL), (16, 0x1236, .ld_atHL_n 0x12), (8, 0x37, .scf),
     (16, 0x1238, .jr_C 0x12), (8, 0x39, .add_HL_SP), (8, 0x3A, .ld_A_atHLdec), (8, 0x3B, .dec_SP),
     (8, 0x3C, .inc_A), (8, 0x3D, .dec_A), (16, 0x123E, .ld_A_n 0x12),
     (8, 0x3F, .ccf)].all decodes = true := by decide +kernel

theorem test_decode_primary_4x :
    [(8, 0x40, .ld_B_B), (8, 0x41, .ld_B_C), (8, 0x42, .ld_B_D), (8, 0x43, .ld_B_E), (8, 0x44, .ld_B_H),
     (8, 0x45, .ld_B_L), (8, 0x46, .ld_B_atHL), (8, 0x47, .ld_B_A), (8, 0x48, .ld_C_B), (8, 0x49, .ld_C_C),
     (8, 0x4A, .ld_C_D), (8, 0x4B, .ld_C_E), (8, 0x4C, .ld_C_H), (8, 0x4D, .ld_C_L), (8, 0x4E, .ld_C_atHL),
     (8, 0x4F, .ld_C_A)].all decodes = true := by decide +kernel

theorem test_decode_primary_5x :
    [(8, 0x50, .ld_D_B), (8, 0x51, .ld_D_C), (8, 0x52, .ld_D_D), (8, 0x53, .ld_D_E), (8, 0x54, .ld_D_H),
     (8, 0x55, .ld_D_L), (8, 0x56, .ld_D_atHL), (8, 0x57, .ld_D_A), (8, 0x58, .ld_E_B), (8, 0x59, .ld_E_C),
     (8, 0x5A, .ld_E_D), (8, 0x5B, .ld_E_E), (8, 0x5C, .ld_E_H), (8, 0x5D, .ld_E_L), (8, 0x5E, .ld_E_atHL),
     (8, 0x5F, .ld_E_A)].all decodes = true := by decide +kernel

theorem test_decode_primary_6x :
    [(8, 0x60, .ld_H_B), (8, 0x61, .ld_H_C), (8, 0x62, .ld_H_D), (8, 0x63, .ld_H_E), (8, 0x64, .ld_H_H),
     (8, 0x65, .ld_H_L), (8, 0x66, .ld_H_atHL), (8, 0x67, .ld_H_A), (8, 0x68, .ld_L_B), (8, 0x69, .ld_L_C),
     (8, 0x6A, .ld_L_D), (8, 0x6B, .ld_L_E), (8, 0x6C, .ld_L_H), (8, 0x6D, .ld_L_L), (8, 0x6E, .ld_L_atHL),
     (8, 0x6F, .ld_L_A)].all decodes = true := by decide +kernel

theorem test_decode_primary_7x :
    [(8, 0x70, .ld_atHL_B), (8, 0x71, .ld_atHL_C), (8, 0x72, .ld_atHL_D), (8, 0x73, .ld_atHL_E),
     (8, 0x74, .ld_atHL_H), (8, 0x75, .ld_atHL_L), (8, 0x76, .halt), (8, 0x77, .ld_atHL_A), (8, 0x78, .ld_A_B),
     (8, 0x79, .ld_A_C), (8, 0x7A, .ld_A_D), (8, 0x7B, .ld_A_E), (8, 0x7C, .ld_A_H), (8, 0x7D, .ld_A_L),
     (8, 0x7E, .ld_A_atHL), (8, 0x7F, .ld_A_A)].all decodes = true := by decide +kernel

theorem test_decode_primary_8x :
    [(8, 0x80, .add_A_B), (8, 0x81, .add_A_C), (8, 0x82, .add_A_D), (8, 0x83, .add_A_E), (8, 0x84, .add_A_H),
     (8, 0x85, .add_A_L), (8, 0x86, .add_A_atHL), (8, 0x87, .add_A_A), (8, 0x88, .adc_A_B), (8, 0x89, .adc_A_C),
     (8, 0x8A, .adc_A_D), (8, 0x8B, .adc_A_E), (8, 0x8C, .adc_A_H), (8, 0x8D, .adc_A_L), (8, 0x8E, .adc_A_atHL),
     (8, 0x8F, .adc_A_A)].all decodes = true := by decide +kernel

theorem test_decode_primary_9x :
    [(8, 0x90, .sub_A_B), (8, 0x91, .sub_A_C), (8, 0x92, .sub_A_D), (8, 0x93, .sub_A_E), (8, 0x94, .sub_A_H),
     (8, 0x95, .sub_A_L), (8, 0x96, .sub_A_atHL), (8, 0x97, .sub_A_A), (8, 0x98, .sbc_A_B), (8, 0x99, .sbc_A_C),
     (8, 0x9A, .sbc_A_D), (8, 0x9B, .sbc_A_E), (8, 0x9C, .sbc_A_H), (8, 0x9D, .sbc_A_L), (8, 0x9E, .sbc_A_atHL),
     (8, 0x9F, .sbc_A_A)].all decodes = true := by decide +kernel

theorem test_decode_primary_Ax :
    [(8, 0xA0, .and_A_B), (8, 0xA1, .and_A_C), (8, 0xA2, .and_A_D), (8, 0xA3, .and_A_E), (8, 0xA4, .and_A_H),
     (8, 0xA5, .and_A_L), (8, 0xA6, .and_A_atHL), (8, 0xA7, .and_A_A), (8, 0xA8, .xor_A_B), (8, 0xA9, .xor_A_C),
     (8, 0xAA, .xor_A_D), (8, 0xAB, .xor_A_E), (8, 0xAC, .xor_A_H), (8, 0xAD, .xor_A_L), (8, 0xAE, .xor_A_atHL),
     (8, 0xAF, .xor_A_A)].all decodes = true := by decide +kernel

theorem test_decode_primary_Bx :
    [(8, 0xB0, .or_A_B), (8, 0xB1, .or_A_C), (8, 0xB2, .or_A_D), (8, 0xB3, .or_A_E), (8, 0xB4, .or_A_H),
     (8, 0xB5, .or_A_L), (8, 0xB6, .or_A_atHL), (8, 0xB7, .or_A_A), (8, 0xB8, .cp_A_B), (8, 0xB9, .cp_A_C),
     (8, 0xBA, .cp_A_D), (8, 0xBB, .cp_A_E), (8, 0xBC, .cp_A_H), (8, 0xBD, .cp_A_L), (8, 0xBE, .cp_A_atHL),
     (8, 0xBF, .cp_A_A)].all decodes = true := by decide +kernel

theorem test_decode_primary_Cx :
    [(8, 0xC0, .ret_NZ), (8, 0xC1, .pop_BC), (24, 0x3412C2, .jp_NZ 0x3412), (24, 0x3412C3, .jp 0x3412),
     (24, 0x3412C4, .call_NZ 0x3412), (8, 0xC5, .push_BC), (16, 0x12C6, .add_A_n 0x12), (8, 0xC7, .rst_00),
     (8, 0xC8, .ret_Z), (8, 0xC9, .ret), (24, 0x3412CA, .jp_Z 0x3412), (8, 0xCB, .rlc_B),
     (24, 0x3412CC, .call_Z 0x3412), (24, 0x3412CD, .call 0x3412), (16, 0x12CE, .adc_A_n 0x12),
     (8, 0xCF, .rst_08)].all decodes = true := by decide +kernel

theorem test_decode_primary_Dx :
    [(8, 0xD0, .ret_NC), (8, 0xD1, .pop_DE), (24, 0x3412D2, .jp_NC 0x3412), (8, 0xD3, .illegal_D3),
     (24, 0x3412D4, .call_NC 0x3412), (8, 0xD5, .push_DE), (16, 0x12D6, .sub_A_n 0x12), (8, 0xD7, .rst_10),
     (8, 0xD8, .ret_C), (8, 0xD9, .reti), (24, 0x3412DA, .jp_C 0x3412), (8, 0xDB, .illegal_DB),
     (24, 0x3412DC, .call_C 0x3412), (8, 0xDD, .illegal_DD), (16, 0x12DE, .sbc_A_n 0x12),
     (8, 0xDF, .rst_18)].all decodes = true := by decide +kernel

theorem test_decode_primary_Ex :
    [(16, 0x12E0, .ldh_atN_A 0x12), (8, 0xE1, .pop_HL), (8, 0xE2, .ldh_atC_A), (8, 0xE3, .illegal_E3),
     (8, 0xE4, .illegal_E4), (8, 0xE5, .push_HL), (16, 0x12E6, .and_A_n 0x12), (8, 0xE7, .rst_20),
     (16, 0x12E8, .add_SP_e 0x12), (8, 0xE9, .jp_HL), (24, 0x3412EA, .ld_atNN_A 0x3412), (8, 0xEB, .illegal_EB),
     (8, 0xEC, .illegal_EC), (8, 0xED, .illegal_ED), (16, 0x12EE, .xor_A_n 0x12),
     (8, 0xEF, .rst_28)].all decodes = true := by decide +kernel

theorem test_decode_primary_Fx :
    [(16, 0x12F0, .ldh_A_atN 0x12), (8, 0xF1, .pop_AF), (8, 0xF2, .ldh_A_atC), (8, 0xF3, .di),
     (8, 0xF4, .illegal_F4), (8, 0xF5, .push_AF), (16, 0x12F6, .or_A_n 0x12), (8, 0xF7, .rst_30),
     (16, 0x12F8, .ld_HL_SPe 0x12), (8, 0xF9, .ld_SP_HL), (24, 0x3412FA, .ld_A_atNN 0x3412), (8, 0xFB, .ei),
     (8, 0xFC, .illegal_FC), (8, 0xFD, .illegal_FD), (16, 0x12FE, .cp_A_n 0x12),
     (8, 0xFF, .rst_38)].all decodes = true := by decide +kernel

theorem test_decode_extended_0x :
    [(16, 0xCB00, .rlc_B), (16, 0xCB01, .rlc_C), (16, 0xCB02, .rlc_D), (16, 0xCB03, .rlc_E), (16, 0xCB04, .rlc_H),
     (16, 0xCB05, .rlc_L), (16, 0xCB06, .rlc_atHL), (16, 0xCB07, .rlc_A), (16, 0xCB08, .rrc_B),
     (16, 0xCB09, .rrc_C), (16, 0xCB0A, .rrc_D), (16, 0xCB0B, .rrc_E), (16, 0xCB0C, .rrc_H), (16, 0xCB0D, .rrc_L),
     (16, 0xCB0E, .rrc_atHL), (16, 0xCB0F, .rrc_A)].all decodes = true := by decide +kernel

theorem test_decode_extended_1x :
    [(16, 0xCB10, .rl_B), (16, 0xCB11, .rl_C), (16, 0xCB12, .rl_D), (16, 0xCB13, .rl_E), (16, 0xCB14, .rl_H),
     (16, 0xCB15, .rl_L), (16, 0xCB16, .rl_atHL), (16, 0xCB17, .rl_A), (16, 0xCB18, .rr_B), (16, 0xCB19, .rr_C),
     (16, 0xCB1A, .rr_D), (16, 0xCB1B, .rr_E), (16, 0xCB1C, .rr_H), (16, 0xCB1D, .rr_L), (16, 0xCB1E, .rr_atHL),
     (16, 0xCB1F, .rr_A)].all decodes = true := by decide +kernel

theorem test_decode_extended_2x :
    [(16, 0xCB20, .sla_B), (16, 0xCB21, .sla_C), (16, 0xCB22, .sla_D), (16, 0xCB23, .sla_E), (16, 0xCB24, .sla_H),
     (16, 0xCB25, .sla_L), (16, 0xCB26, .sla_atHL), (16, 0xCB27, .sla_A), (16, 0xCB28, .sra_B),
     (16, 0xCB29, .sra_C), (16, 0xCB2A, .sra_D), (16, 0xCB2B, .sra_E), (16, 0xCB2C, .sra_H), (16, 0xCB2D, .sra_L),
     (16, 0xCB2E, .sra_atHL), (16, 0xCB2F, .sra_A)].all decodes = true := by decide +kernel

theorem test_decode_extended_3x :
    [(16, 0xCB30, .swap_B), (16, 0xCB31, .swap_C), (16, 0xCB32, .swap_D), (16, 0xCB33, .swap_E),
     (16, 0xCB34, .swap_H), (16, 0xCB35, .swap_L), (16, 0xCB36, .swap_atHL), (16, 0xCB37, .swap_A),
     (16, 0xCB38, .srl_B), (16, 0xCB39, .srl_C), (16, 0xCB3A, .srl_D), (16, 0xCB3B, .srl_E), (16, 0xCB3C, .srl_H),
     (16, 0xCB3D, .srl_L), (16, 0xCB3E, .srl_atHL), (16, 0xCB3F, .srl_A)].all decodes = true := by decide +kernel

theorem test_decode_extended_4x :
    [(16, 0xCB40, .bit0_B), (16, 0xCB41, .bit0_C), (16, 0xCB42, .bit0_D), (16, 0xCB43, .bit0_E),
     (16, 0xCB44, .bit0_H), (16, 0xCB45, .bit0_L), (16, 0xCB46, .bit0_atHL), (16, 0xCB47, .bit0_A),
     (16, 0xCB48, .bit1_B), (16, 0xCB49, .bit1_C), (16, 0xCB4A, .bit1_D), (16, 0xCB4B, .bit1_E),
     (16, 0xCB4C, .bit1_H), (16, 0xCB4D, .bit1_L), (16, 0xCB4E, .bit1_atHL),
     (16, 0xCB4F, .bit1_A)].all decodes = true := by decide +kernel

theorem test_decode_extended_5x :
    [(16, 0xCB50, .bit2_B), (16, 0xCB51, .bit2_C), (16, 0xCB52, .bit2_D), (16, 0xCB53, .bit2_E),
     (16, 0xCB54, .bit2_H), (16, 0xCB55, .bit2_L), (16, 0xCB56, .bit2_atHL), (16, 0xCB57, .bit2_A),
     (16, 0xCB58, .bit3_B), (16, 0xCB59, .bit3_C), (16, 0xCB5A, .bit3_D), (16, 0xCB5B, .bit3_E),
     (16, 0xCB5C, .bit3_H), (16, 0xCB5D, .bit3_L), (16, 0xCB5E, .bit3_atHL),
     (16, 0xCB5F, .bit3_A)].all decodes = true := by decide +kernel

theorem test_decode_extended_6x :
    [(16, 0xCB60, .bit4_B), (16, 0xCB61, .bit4_C), (16, 0xCB62, .bit4_D), (16, 0xCB63, .bit4_E),
     (16, 0xCB64, .bit4_H), (16, 0xCB65, .bit4_L), (16, 0xCB66, .bit4_atHL), (16, 0xCB67, .bit4_A),
     (16, 0xCB68, .bit5_B), (16, 0xCB69, .bit5_C), (16, 0xCB6A, .bit5_D), (16, 0xCB6B, .bit5_E),
     (16, 0xCB6C, .bit5_H), (16, 0xCB6D, .bit5_L), (16, 0xCB6E, .bit5_atHL),
     (16, 0xCB6F, .bit5_A)].all decodes = true := by decide +kernel

theorem test_decode_extended_7x :
    [(16, 0xCB70, .bit6_B), (16, 0xCB71, .bit6_C), (16, 0xCB72, .bit6_D), (16, 0xCB73, .bit6_E),
     (16, 0xCB74, .bit6_H), (16, 0xCB75, .bit6_L), (16, 0xCB76, .bit6_atHL), (16, 0xCB77, .bit6_A),
     (16, 0xCB78, .bit7_B), (16, 0xCB79, .bit7_C), (16, 0xCB7A, .bit7_D), (16, 0xCB7B, .bit7_E),
     (16, 0xCB7C, .bit7_H), (16, 0xCB7D, .bit7_L), (16, 0xCB7E, .bit7_atHL),
     (16, 0xCB7F, .bit7_A)].all decodes = true := by decide +kernel

theorem test_decode_extended_8x :
    [(16, 0xCB80, .res0_B), (16, 0xCB81, .res0_C), (16, 0xCB82, .res0_D), (16, 0xCB83, .res0_E),
     (16, 0xCB84, .res0_H), (16, 0xCB85, .res0_L), (16, 0xCB86, .res0_atHL), (16, 0xCB87, .res0_A),
     (16, 0xCB88, .res1_B), (16, 0xCB89, .res1_C), (16, 0xCB8A, .res1_D), (16, 0xCB8B, .res1_E),
     (16, 0xCB8C, .res1_H), (16, 0xCB8D, .res1_L), (16, 0xCB8E, .res1_atHL),
     (16, 0xCB8F, .res1_A)].all decodes = true := by decide +kernel

theorem test_decode_extended_9x :
    [(16, 0xCB90, .res2_B), (16, 0xCB91, .res2_C), (16, 0xCB92, .res2_D), (16, 0xCB93, .res2_E),
     (16, 0xCB94, .res2_H), (16, 0xCB95, .res2_L), (16, 0xCB96, .res2_atHL), (16, 0xCB97, .res2_A),
     (16, 0xCB98, .res3_B), (16, 0xCB99, .res3_C), (16, 0xCB9A, .res3_D), (16, 0xCB9B, .res3_E),
     (16, 0xCB9C, .res3_H), (16, 0xCB9D, .res3_L), (16, 0xCB9E, .res3_atHL),
     (16, 0xCB9F, .res3_A)].all decodes = true := by decide +kernel

theorem test_decode_extended_Ax :
    [(16, 0xCBA0, .res4_B), (16, 0xCBA1, .res4_C), (16, 0xCBA2, .res4_D), (16, 0xCBA3, .res4_E),
     (16, 0xCBA4, .res4_H), (16, 0xCBA5, .res4_L), (16, 0xCBA6, .res4_atHL), (16, 0xCBA7, .res4_A),
     (16, 0xCBA8, .res5_B), (16, 0xCBA9, .res5_C), (16, 0xCBAA, .res5_D), (16, 0xCBAB, .res5_E),
     (16, 0xCBAC, .res5_H), (16, 0xCBAD, .res5_L), (16, 0xCBAE, .res5_atHL),
     (16, 0xCBAF, .res5_A)].all decodes = true := by decide +kernel

theorem test_decode_extended_Bx :
    [(16, 0xCBB0, .res6_B), (16, 0xCBB1, .res6_C), (16, 0xCBB2, .res6_D), (16, 0xCBB3, .res6_E),
     (16, 0xCBB4, .res6_H), (16, 0xCBB5, .res6_L), (16, 0xCBB6, .res6_atHL), (16, 0xCBB7, .res6_A),
     (16, 0xCBB8, .res7_B), (16, 0xCBB9, .res7_C), (16, 0xCBBA, .res7_D), (16, 0xCBBB, .res7_E),
     (16, 0xCBBC, .res7_H), (16, 0xCBBD, .res7_L), (16, 0xCBBE, .res7_atHL),
     (16, 0xCBBF, .res7_A)].all decodes = true := by decide +kernel

theorem test_decode_extended_Cx :
    [(16, 0xCBC0, .set0_B), (16, 0xCBC1, .set0_C), (16, 0xCBC2, .set0_D), (16, 0xCBC3, .set0_E),
     (16, 0xCBC4, .set0_H), (16, 0xCBC5, .set0_L), (16, 0xCBC6, .set0_atHL), (16, 0xCBC7, .set0_A),
     (16, 0xCBC8, .set1_B), (16, 0xCBC9, .set1_C), (16, 0xCBCA, .set1_D), (16, 0xCBCB, .set1_E),
     (16, 0xCBCC, .set1_H), (16, 0xCBCD, .set1_L), (16, 0xCBCE, .set1_atHL),
     (16, 0xCBCF, .set1_A)].all decodes = true := by decide +kernel

theorem test_decode_extended_Dx :
    [(16, 0xCBD0, .set2_B), (16, 0xCBD1, .set2_C), (16, 0xCBD2, .set2_D), (16, 0xCBD3, .set2_E),
     (16, 0xCBD4, .set2_H), (16, 0xCBD5, .set2_L), (16, 0xCBD6, .set2_atHL), (16, 0xCBD7, .set2_A),
     (16, 0xCBD8, .set3_B), (16, 0xCBD9, .set3_C), (16, 0xCBDA, .set3_D), (16, 0xCBDB, .set3_E),
     (16, 0xCBDC, .set3_H), (16, 0xCBDD, .set3_L), (16, 0xCBDE, .set3_atHL),
     (16, 0xCBDF, .set3_A)].all decodes = true := by decide +kernel

theorem test_decode_extended_Ex :
    [(16, 0xCBE0, .set4_B), (16, 0xCBE1, .set4_C), (16, 0xCBE2, .set4_D), (16, 0xCBE3, .set4_E),
     (16, 0xCBE4, .set4_H), (16, 0xCBE5, .set4_L), (16, 0xCBE6, .set4_atHL), (16, 0xCBE7, .set4_A),
     (16, 0xCBE8, .set5_B), (16, 0xCBE9, .set5_C), (16, 0xCBEA, .set5_D), (16, 0xCBEB, .set5_E),
     (16, 0xCBEC, .set5_H), (16, 0xCBED, .set5_L), (16, 0xCBEE, .set5_atHL),
     (16, 0xCBEF, .set5_A)].all decodes = true := by decide +kernel

theorem test_decode_extended_Fx :
    [(16, 0xCBF0, .set6_B), (16, 0xCBF1, .set6_C), (16, 0xCBF2, .set6_D), (16, 0xCBF3, .set6_E),
     (16, 0xCBF4, .set6_H), (16, 0xCBF5, .set6_L), (16, 0xCBF6, .set6_atHL), (16, 0xCBF7, .set6_A),
     (16, 0xCBF8, .set7_B), (16, 0xCBF9, .set7_C), (16, 0xCBFA, .set7_D), (16, 0xCBFB, .set7_E),
     (16, 0xCBFC, .set7_H), (16, 0xCBFD, .set7_L), (16, 0xCBFE, .set7_atHL),
     (16, 0xCBFF, .set7_A)].all decodes = true := by decide +kernel

/-- Words written bit by bit: fields `x y z`, `x p q z` as R122 to R128 place them, one for each family. -/
theorem test_decode_bit_by_bit :
    decodeTableWord 8 0b01_010_110 = some .ld_D_atHL ∧ decodeTableWord 16 0b10101010_00_111_110 = some (.ld_A_n 0xAA) ∧
    decodeTableWord 8 0b00_10_1_010 = some .ld_A_atHLinc ∧ decodeTableWord 24 0x8001_31 = some (.ld_SP_nn 0x8001) ∧
    decodeTableWord 8 0b11_11_0_101 = some .push_AF ∧ decodeTableWord 8 0b10_011_001 = some .sbc_A_C ∧
    decodeTableWord 16 0x0F_EE = some (.xor_A_n 0x0F) ∧ decodeTableWord 8 0b00_101_101 = some .dec_L ∧
    decodeTableWord 8 0b00_10_1_001 = some .add_HL_HL ∧ decodeTableWord 16 0b11001011_00_101_011 = some .sra_E ∧
    decodeTableWord 16 0b11001011_10_001_110 = some .res1_atHL ∧ decodeTableWord 24 0x1234_DA = some (.jp_C 0x1234) ∧
    decodeTableWord 8 0b11_101_111 = some .rst_28 ∧ decodeTableWord 8 0b11_110_011 = some .di ∧
    decodeTableWord 16 0x00_10 = some (.stop 0) := by decide +kernel

/-- Bytes that end too early are rejected by name. -/
theorem test_decode_rejects_short_bytes :
    (match decode [] with | .error _ => true | .ok _ => false) = true ∧
    (match decode [0xCB] with | .error _ => true | .ok _ => false) = true ∧
    (match decode [0xC3, 0x00] with | .error _ => true | .ok _ => false) = true := by decide

/-! ### Single steps (spec/95_test_vectors.md, section 3) -/

/-- The launch defaults of spec/95_test_vectors.md. -/
def launched : State := { State.reset with bootDone := true, pc := 0x0100 }

/-- A byte in the cell an address resolves to. -/
def put (s : State) (a : Word) (v : Byte) : State := State.placeByte s s a v

/-- Code bytes at `PC`. -/
def code (s : State) (bytes : List Byte) : State :=
  bytes.zipIdx.foldl (fun s x => put s (s.pc + BitVec.ofNat 16 x.2) x.1) s

/-- What is seen of the state after one step. -/
def after {α : Type} (s : State) (see : State → α) : Option α :=
  match step s with
  | .next t => some (see t)
  | .fault _ => none
  | .refused _ => none

def faultOf (s : State) : Option Fault :=
  match step s with
  | .next _ => none
  | .fault r => some r
  | .refused _ => none

/-- V-LD-1, V-LD-2. -/
theorem test_ld_r_r :
    (after (code ({ launched with b := 0x11, c := 0x22 }) [0x41])
      (fun t => (t.b, t.c, t.pc, t.lastCycles)) = some (0x22, 0x22, 0x0101, 4)) ∧
    (after (code ({ launched with a := 0x5A, f := 0xF0 }) [0x7F])
      (fun t => (t.a, t.f, t.pc)) = some (0x5A, 0xF0, 0x0101)) := by decide +kernel

/-- V-LD-3. -/
theorem test_ld_r_n :
    after (code ({ launched with f := 0x50 }) [0x06, 0xAB])
      (fun t => (t.b, t.f, t.pc, t.lastCycles)) = some (0xAB, 0x50, 0x0102, 8) := by decide +kernel

/-- V-LD-4, V-LD-5, V-LD-6. -/
theorem test_ld_atHL :
    (after (put (code ({ launched with h := 0xC1, l := 0x23 }) [0x46]) 0xC123 0x77)
      (fun t => (t.b, t.hl, t.lastCycles)) = some (0x77, 0xC123, 8)) ∧
    (after (code ({ launched with h := 0xC1, l := 0x23, b := 0x99 }) [0x70])
      (fun t => (t.read8 0xC123 false, t.read8 0xE123 false, t.lastCycles)) = some (0x99, 0x99, 8)) ∧
    (after (code ({ launched with h := 0xFF, l := 0x80 }) [0x36, 0x42])
      (fun t => (t.pc, t.read8 0xFF80 false, t.lastCycles)) = some (0x0102, 0x42, 12)) := by decide +kernel

/-- V-LD-7, V-LD-8. -/
theorem test_ld_A_indirect :
    (after (code ({ launched with b := 0x01, c := 0x00 }) [0x0A]) (fun t => (t.a)) = some (0x0A)) ∧
    (after (code ({ launched with d := 0x80, e := 0x00, a := 0x3C }) [0x12])
      (fun t => (t.read8 0x8000 false)) = some (0x3C)) := by decide +kernel

/-- V-LD-9, V-LD-10. -/
theorem test_ld_hl_inc :
    (after (code ({ launched with h := 0xCF, l := 0xFF, a := 0x01 }) [0x22])
      (fun t => (t.hl, t.read8 0xCFFF false)) = some (0xD000, 0x01)) ∧
    (after (put (code ({ launched with h := 0xFF, l := 0xFF }) [0x2A]) 0xFFFF 0x1F)
      (fun t => (t.a, t.hl)) = some (0x1F, 0x0000)) := by decide +kernel

/-- V-LD-11, V-LD-12. -/
theorem test_ld_hl_dec :
    (after (code ({ launched with h := 0xC0, l := 0x00, a := 0x55 }) [0x32])
      (fun t => (t.hl, t.read8 0xC000 false)) = some (0xBFFF, 0x55)) ∧
    (after (code ({ launched with h := 0x00, l := 0x00 }) [0x3A]) (fun t => (t.a, t.hl)) = some (0x00, 0xFFFF)) := by
  decide +kernel

/-- V-LD-13, V-LD-15, V-LD-16. -/
theorem test_ldh :
    (after (code ({ launched with a := 0x9C }) [0xE0, 0x80])
      (fun t => (t.read8 0xFF80 false, t.lastCycles)) = some (0x9C, 12)) ∧
    (after (code ({ launched with a := 0x12, c := 0x06 }) [0xE2]) (fun t => (t.read8 0xFF06 false)) = some (0x12)) ∧
    (after (put (code ({ launched with c := 0x05 }) [0xF2]) 0xFF05 0x77) (fun t => (t.a)) = some (0x77)) := by
  decide +kernel

/-- V-LD-17, V-LD-18, V-LD-19. -/
theorem test_ld_absolute :
    (after (put (code ({ launched with a := 0x99 }) [0xEA, 0x04, 0xFF]) 0xFF04 0x55)
      (fun t => (t.pc, t.read8 0xFF04 false, t.lastCycles)) = some (0x0103, 0x00, 16)) ∧
    (after (code ({ launched with a := 0x99 }) [0xFA, 0xA0, 0xFE]) (fun t => (t.a, t.lastCycles)) = some (0x00, 16)) ∧
    (after (code ({ launched with h := 0xA0, l := 0x00, a := 0x99 }) [0x77])
      (fun t => (t.read8 0xA000 false)) = some (0x00)) := by decide +kernel

/-- V-L16-1, V-L16-2, V-L16-5. -/
theorem test_ld16 :
    (after (code (launched) [0x21, 0x34, 0x12]) (fun t => (t.hl, t.pc, t.lastCycles)) = some (0x1234, 0x0103, 12)) ∧
    (after (code (launched) [0x31, 0xFE, 0xFF]) (fun t => (t.sp)) = some (0xFFFE)) ∧
    (after (code ({ launched with h := 0xD0, l := 0x00 }) [0xF9])
      (fun t => (t.sp, t.lastCycles)) = some (0xD000, 8)) := by decide +kernel

/-- V-L16-3, V-L16-4. -/
theorem test_ld_atNN_SP :
    (after (code ({ launched with sp := 0xFFF8 }) [0x08, 0x00, 0xC1])
      (fun t => (t.read8 0xC100 false, t.read8 0xC101 false, t.lastCycles)) = some (0xF8, 0xFF, 20)) ∧
    (after (code ({ launched with sp := 0xABCD }) [0x08, 0xFF, 0xFF])
      (fun t => (t.read8 0xFFFF false, t.read8 0x0000 false)) = some (0xCD, 0xAB)) := by decide +kernel

/-- V-L16-7, V-L16-8, V-L16-9. -/
theorem test_ld_HL_SPe :
    (after (code ({ launched with sp := 0xFFF8 }) [0xF8, 0x08]) (fun t => (t.hl, t.f)) = some (0x0000, 0x30)) ∧
    (after (code ({ launched with sp := 0x0000 }) [0xF8, 0xFF]) (fun t => (t.hl, t.f)) = some (0xFFFF, 0x00)) ∧
    (after (code ({ launched with sp := 0x0001 }) [0xF8, 0xFF]) (fun t => (t.hl, t.f)) = some (0x0000, 0x30)) := by
  decide +kernel

/-- V-L16-10, V-L16-14, V-L16-16. -/
theorem test_push :
    (after (code ({ launched with b := 0x80, c := 0x01, sp := 0xFFFE }) [0xC5])
      (fun t => (t.sp, t.read8 0xFFFD false, t.read8 0xFFFC false, t.lastCycles)) = some (0xFFFC, 0x80, 0x01, 16)) ∧
    (after (code ({ launched with b := 0x1F, c := 0x42, sp := 0x0000 }) [0xC5])
      (fun t => (t.sp, t.read8 0xFFFF false, t.read8 0xFFFE false)) = some (0xFFFE, 0x1F, 0x42)) ∧
    (after (code ({ launched with a := 0x12, f := 0xB0, sp := 0xD000 }) [0xF5])
      (fun t => (t.sp, t.read8 0xCFFF false, t.read8 0xCFFE false)) = some (0xCFFE, 0x12, 0xB0)) := by decide +kernel

/-- V-L16-15. -/
theorem test_pop_AF :
    after (put (put (code ({ launched with sp := 0xC000 }) [0xF1]) 0xC000 0xFF) 0xC001 0x12)
      (fun t => (t.a, t.f, t.sp, t.lastCycles)) = some (0x12, 0xF0, 0xC002, 12) := by decide +kernel

/-- V-ALU-1, V-ALU-3, V-ALU-4, V-ALU-5. -/
theorem test_add :
    (after (code ({ launched with a := 0x3A, b := 0xC6 }) [0x80])
      (fun t => (t.a, t.f, t.lastCycles)) = some (0x00, 0xB0, 4)) ∧
    (after (code ({ launched with a := 0x80 }) [0x87]) (fun t => (t.a, t.f)) = some (0x00, 0x90)) ∧
    (after (code ({ launched with a := 0x01 }) [0xC6, 0xFF])
      (fun t => (t.a, t.f, t.lastCycles)) = some (0x00, 0xB0, 8)) ∧
    (after (put (code ({ launched with a := 0x3C, h := 0xC0, l := 0x00 }) [0x86]) 0xC000 0x12)
      (fun t => (t.a, t.f, t.lastCycles)) = some (0x4E, 0x00, 8)) := by decide +kernel

/-- V-ALU-6, V-ALU-7, V-ALU-8. -/
theorem test_adc :
    (after (code ({ launched with a := 0xE1, b := 0x0F, f := 0x10 }) [0x88])
      (fun t => (t.a, t.f)) = some (0xF1, 0x20)) ∧
    (after (code ({ launched with a := 0x00, f := 0x10 }) [0xCE, 0xFF]) (fun t => (t.a, t.f)) = some (0x00, 0xB0)) ∧
    (after (code ({ launched with a := 0x80, f := 0x10 }) [0x8F]) (fun t => (t.a, t.f)) = some (0x01, 0x10)) := by
  decide +kernel

/-- V-ALU-9, V-ALU-10, V-ALU-11. -/
theorem test_sub :
    (after (code ({ launched with a := 0x3E, b := 0x3E }) [0x90]) (fun t => (t.a, t.f)) = some (0x00, 0xC0)) ∧
    (after (code ({ launched with a := 0x3E }) [0xD6, 0x0F]) (fun t => (t.a, t.f)) = some (0x2F, 0x60)) ∧
    (after (put (code ({ launched with a := 0x3E, h := 0xC0, l := 0x00 }) [0x96]) 0xC000 0x40)
      (fun t => (t.a, t.f)) = some (0xFE, 0x50)) := by decide +kernel

/-- V-ALU-13, V-ALU-15, V-ALU-16, V-ALU-17. -/
theorem test_sbc :
    (after (code ({ launched with a := 0x3B, b := 0x2A, f := 0x10 }) [0x98])
      (fun t => (t.a, t.f)) = some (0x10, 0x40)) ∧
    (after (put (code ({ launched with a := 0x3B, h := 0xC0, l := 0x00, f := 0x10 }) [0x9E]) 0xC000 0x4F)
      (fun t => (t.a, t.f)) = some (0xEB, 0x70)) ∧
    (after (code ({ launched with a := 0x00, f := 0x10 }) [0xDE, 0xFF]) (fun t => (t.a, t.f)) = some (0x00, 0xF0)) ∧
    (after (code ({ launched with a := 0x42, f := 0x10 }) [0x9F]) (fun t => (t.a, t.f)) = some (0xFF, 0x70)) := by
  decide +kernel

/-- V-ALU-18, V-ALU-20, V-ALU-22, V-ALU-23. -/
theorem test_logic :
    (after (code ({ launched with a := 0x5A, l := 0x3F, f := 0x10 }) [0xA5])
      (fun t => (t.a, t.f)) = some (0x1A, 0x20)) ∧
    (after (code ({ launched with a := 0xFF, f := 0xF0 }) [0xAF]) (fun t => (t.a, t.f)) = some (0x00, 0x80)) ∧
    (after (code ({ launched with a := 0x00, f := 0x70 }) [0xB7]) (fun t => (t.a, t.f)) = some (0x00, 0x80)) ∧
    (after (code ({ launched with a := 0x5A }) [0xF6, 0x03]) (fun t => (t.a, t.f)) = some (0x5B, 0x00)) := by
  decide +kernel

/-- V-ALU-24, V-ALU-26. -/
theorem test_cp :
    (after (code ({ launched with a := 0x3C, b := 0x2F }) [0xB8]) (fun t => (t.a, t.f)) = some (0x3C, 0x60)) ∧
    (after (put (code ({ launched with a := 0x3C, h := 0xC0, l := 0x00 }) [0xBE]) 0xC000 0x40)
      (fun t => (t.a, t.f)) = some (0x3C, 0x50)) := by decide +kernel

/-- V-ALU-27, V-ALU-28, V-ALU-33. -/
theorem test_inc :
    (after (code ({ launched with a := 0xFF, f := 0x10 }) [0x3C]) (fun t => (t.a, t.f)) = some (0x00, 0xB0)) ∧
    (after (code ({ launched with b := 0x0F }) [0x04]) (fun t => (t.b, t.f)) = some (0x10, 0x20)) ∧
    (after (put (code ({ launched with h := 0xFF, l := 0x04 }) [0x34]) 0xFF04 0x41)
      (fun t => (t.f, t.read8 0xFF04 false)) = some (0x00, 0x00)) := by decide +kernel

/-- V-ALU-31, V-ALU-32. -/
theorem test_dec :
    (after (code ({ launched with b := 0x00, f := 0x10 }) [0x05]) (fun t => (t.b, t.f)) = some (0xFF, 0x70)) ∧
    (after (put (code ({ launched with h := 0xC0, l := 0x00 }) [0x35]) 0xC000 0x10)
      (fun t => (t.f, t.read8 0xC000 false)) = some (0x60, 0x0F)) := by decide +kernel

/-- V-ALU-34, V-ALU-36, V-ALU-37, V-ALU-38. -/
theorem test_daa_after_add :
    (after (code ({ launched with a := 0x7D, f := 0x00 }) [0x27]) (fun t => (t.a, t.f)) = some (0x83, 0x00)) ∧
    (after (code ({ launched with a := 0x9A, f := 0x00 }) [0x27]) (fun t => (t.a, t.f)) = some (0x00, 0x90)) ∧
    (after (code ({ launched with a := 0x00, f := 0x10 }) [0x27]) (fun t => (t.a, t.f)) = some (0x60, 0x10)) ∧
    (after (code ({ launched with a := 0x0A, f := 0x20 }) [0x27]) (fun t => (t.a, t.f)) = some (0x10, 0x00)) := by
  decide +kernel

/-- V-ALU-35, V-ALU-39. -/
theorem test_daa_after_sub :
    (after (code ({ launched with a := 0x4B, f := 0x60 }) [0x27]) (fun t => (t.a, t.f)) = some (0x45, 0x40)) ∧
    (after (code ({ launched with a := 0xFF, f := 0x70 }) [0x27]) (fun t => (t.a, t.f)) = some (0x99, 0x50)) := by
  decide +kernel

/-- V-ALU-41, V-ALU-42, V-ALU-43. -/
theorem test_cpl_scf_ccf :
    (after (code ({ launched with a := 0x35, f := 0x80 }) [0x2F]) (fun t => (t.a, t.f)) = some (0xCA, 0xE0)) ∧
    (after (code ({ launched with f := 0xE0 }) [0x37]) (fun t => (t.f)) = some (0x90)) ∧
    (after (code ({ launched with f := 0xF0 }) [0x3F]) (fun t => (t.f)) = some (0x80)) := by decide +kernel

/-- V-A16-1, V-A16-3, V-A16-5. -/
theorem test_add_HL :
    (after (code ({ launched with h := 0x8A, l := 0x23, b := 0x06, c := 0x05, f := 0x80 }) [0x09])
      (fun t => (t.hl, t.f, t.lastCycles)) = some (0x9028, 0xA0, 8)) ∧
    (after (code ({ launched with h := 0x80, l := 0x00, f := 0x80 }) [0x29])
      (fun t => (t.hl, t.f)) = some (0x0000, 0x90)) ∧
    (after (code ({ launched with h := 0x0F, l := 0xFF, d := 0x00, e := 0x01, f := 0x40 }) [0x19])
      (fun t => (t.hl, t.f)) = some (0x1000, 0x20)) := by decide +kernel

/-- V-A16-6, V-A16-8, V-A16-9. -/
theorem test_inc_dec_pair :
    (after (code ({ launched with d := 0x23, e := 0x5F, f := 0xF0 }) [0x13])
      (fun t => (t.de, t.f, t.lastCycles)) = some (0x2360, 0xF0, 8)) ∧
    (after (code ({ launched with sp := 0xFFFF }) [0x33]) (fun t => (t.sp)) = some (0x0000)) ∧
    (after (code ({ launched with b := 0x00, c := 0x00 }) [0x0B]) (fun t => (t.bc, t.f)) = some (0xFFFF, 0x00)) := by
  decide +kernel

/-- V-A16-12, V-A16-13, V-A16-14. -/
theorem test_add_SP_e :
    (after (code ({ launched with sp := 0xFFF8 }) [0xE8, 0x08]) (fun t => (t.sp, t.f)) = some (0x0000, 0x30)) ∧
    (after (code ({ launched with sp := 0x0000 }) [0xE8, 0xFF]) (fun t => (t.sp, t.f)) = some (0xFFFF, 0x00)) ∧
    (after (code ({ launched with sp := 0x0080 }) [0xE8, 0x80]) (fun t => (t.sp, t.f)) = some (0x0000, 0x10)) := by
  decide +kernel

/-- V-ROT-1, V-ROT-3, V-ROT-4, V-ROT-7. -/
theorem test_rotate_A :
    (after (code ({ launched with a := 0x85, f := 0xE0 }) [0x07])
      (fun t => (t.a, t.f, t.lastCycles)) = some (0x0B, 0x10, 4)) ∧
    (after (code ({ launched with a := 0x3B }) [0x0F]) (fun t => (t.a, t.f)) = some (0x9D, 0x10)) ∧
    (after (code ({ launched with a := 0x95, f := 0x10 }) [0x17]) (fun t => (t.a, t.f)) = some (0x2B, 0x10)) ∧
    (after (code ({ launched with a := 0x00, f := 0x10 }) [0x1F]) (fun t => (t.a, t.f)) = some (0x80, 0x00)) := by
  decide +kernel

/-- V-ROT-8, V-ROT-10, V-ROT-11. -/
theorem test_rlc_rrc :
    (after (code ({ launched with b := 0x85 }) [0xCB, 0x00])
      (fun t => (t.b, t.f, t.pc, t.lastCycles)) = some (0x0B, 0x10, 0x0102, 8)) ∧
    (after (put (code ({ launched with h := 0xC0, l := 0x00 }) [0xCB, 0x06]) 0xC000 0x80)
      (fun t => (t.f, t.read8 0xC000 false, t.lastCycles)) = some (0x10, 0x01, 16)) ∧
    (after (code ({ launched with c := 0x01 }) [0xCB, 0x09]) (fun t => (t.c, t.f)) = some (0x80, 0x10)) := by
  decide +kernel

/-- V-ROT-13, V-ROT-14, V-ROT-16. -/
theorem test_rl_rr :
    (after (code ({ launched with l := 0x80, f := 0x00 }) [0xCB, 0x15]) (fun t => (t.l, t.f)) = some (0x00, 0x90)) ∧
    (after (put (code ({ launched with h := 0xC0, l := 0x00, f := 0x10 }) [0xCB, 0x16]) 0xC000 0x11)
      (fun t => (t.f, t.read8 0xC000 false)) = some (0x00, 0x23)) ∧
    (after (put (code ({ launched with h := 0xC0, l := 0x00, f := 0x10 }) [0xCB, 0x1E]) 0xC000 0x8A)
      (fun t => (t.f, t.read8 0xC000 false)) = some (0x00, 0xC5)) := by decide +kernel

/-- V-ROT-17, V-ROT-19, V-ROT-21, V-ROT-24. -/
theorem test_sla_sra_swap_srl :
    (after (code ({ launched with d := 0x80 }) [0xCB, 0x22]) (fun t => (t.d, t.f)) = some (0x00, 0x90)) ∧
    (after (code ({ launched with d := 0x8A }) [0xCB, 0x2A]) (fun t => (t.d, t.f)) = some (0xC5, 0x00)) ∧
    (after (code ({ launched with a := 0xF1, f := 0xF0 }) [0xCB, 0x37]) (fun t => (t.a, t.f)) = some (0x1F, 0x00)) ∧
    (after (put (code ({ launched with h := 0xC0, l := 0x00 }) [0xCB, 0x3E]) 0xC000 0xFF)
      (fun t => (t.f, t.read8 0xC000 false)) = some (0x10, 0x7F)) := by decide +kernel

/-- V-BIT-1, V-BIT-2, V-BIT-3. -/
theorem test_bit :
    (after (code ({ launched with a := 0x80, f := 0x10 }) [0xCB, 0x7F])
      (fun t => (t.a, t.f, t.lastCycles)) = some (0x80, 0x30, 8)) ∧
    (after (code ({ launched with l := 0xEF, f := 0x00 }) [0xCB, 0x65]) (fun t => (t.l, t.f)) = some (0xEF, 0xA0)) ∧
    (after (put (code ({ launched with h := 0xC0, l := 0x00, f := 0x50 }) [0xCB, 0x46]) 0xC000 0xFE)
      (fun t => (t.f, t.read8 0xC000 false, t.lastCycles)) = some (0xB0, 0xFE, 12)) := by decide +kernel

/-- V-BIT-4, V-BIT-5, V-BIT-6, V-BIT-8. -/
theorem test_res_set :
    (after (code ({ launched with a := 0xFF, f := 0xF0 }) [0xCB, 0x87])
      (fun t => (t.a, t.f, t.lastCycles)) = some (0xFE, 0xF0, 8)) ∧
    (after (put (code ({ launched with h := 0xC0, l := 0x00 }) [0xCB, 0x9E]) 0xC000 0xFF)
      (fun t => (t.read8 0xC000 false, t.lastCycles)) = some (0xF7, 16)) ∧
    (after (code ({ launched with b := 0x00 }) [0xCB, 0xF8]) (fun t => (t.b, t.f)) = some (0x80, 0x00)) ∧
    (after (put (code ({ launched with h := 0xFF, l := 0x0F }) [0xCB, 0xD6]) 0xFF0F 0x01)
      (fun t => (t.read8 0xFF0F false)) = some (0x05)) := by decide +kernel

/-- V-CT-1, V-CT-2, V-CT-5, V-CT-6. -/
theorem test_jp :
    (after (code (launched) [0xC3, 0x50, 0x01]) (fun t => (t.pc, t.lastCycles)) = some (0x0150, 16)) ∧
    (after (code ({ launched with f := 0x80, pc := 0x0200 }) [0xCA, 0x00, 0x80])
      (fun t => (t.pc, t.lastCycles)) = some (0x8000, 12)) ∧
    (after (code ({ launched with f := 0x10 }) [0xD2, 0x34, 0x12]) (fun t => (t.pc)) = some (0x0103)) ∧
    (after (code ({ launched with h := 0xC0, l := 0x00 }) [0xE9])
      (fun t => (t.pc, t.lastCycles)) = some (0xC000, 4)) := by decide +kernel

/-- V-CT-7, V-CT-9, V-CT-10, V-CT-13. -/
theorem test_jr :
    (after (code ({ launched with pc := 0x0150 }) [0x18, 0x05]) (fun t => (t.pc, t.lastCycles)) = some (0x0157, 12)) ∧
    (after (code ({ launched with pc := 0x0010 }) [0x18, 0x80]) (fun t => (t.pc)) = some (0xFF92)) ∧
    (after (code ({ launched with f := 0x00, pc := 0x0205 }) [0x20, 0xFB])
      (fun t => (t.pc, t.lastCycles)) = some (0x0202, 8)) ∧
    (after (code ({ launched with f := 0x10 }) [0x30, 0x7F]) (fun t => (t.pc)) = some (0x0102)) := by decide +kernel

/-- V-CT-15, V-CT-16, V-CT-17. -/
theorem test_call :
    (after (code ({ launched with sp := 0xFFFE, pc := 0x0150 }) [0xCD, 0x00, 0x02])
     
      (fun t => (t.pc, t.sp, t.read8 0xFFFD false, t.read8 0xFFFC false, t.lastCycles)) = some (0x0200, 0xFFFC, 0x01, 0x53, 24)) ∧
    (after (code ({ launched with sp := 0xD000, f := 0x10, pc := 0x0300 }) [0xDC, 0x34, 0x12])
     
      (fun t => (t.pc, t.sp, t.read8 0xCFFF false, t.read8 0xCFFE false, t.lastCycles)) = some (0x1234, 0xCFFE, 0x03, 0x03, 12)) ∧
    (after (code ({ launched with sp := 0xD000, f := 0x10, pc := 0x0300 }) [0xD4, 0x34, 0x12])
      (fun t => (t.pc, t.sp, t.lastCycles)) = some (0x0303, 0xD000, 12)) := by decide +kernel

/-- V-CT-18, V-CT-19, V-CT-20. -/
theorem test_ret :
    (after (put (put (code ({ launched with sp := 0xFFFC }) [0xC9]) 0xFFFC 0x53) 0xFFFD 0x01)
      (fun t => (t.pc, t.sp, t.lastCycles)) = some (0x0153, 0xFFFE, 16)) ∧
    (after (put (put (code ({ launched with sp := 0xFFFC, f := 0x80 }) [0xC8]) 0xFFFC 0x53) 0xFFFD 0x01)
      (fun t => (t.pc, t.sp, t.lastCycles)) = some (0x0153, 0xFFFE, 8)) ∧
    (after (put (put (code ({ launched with sp := 0xFFFC, f := 0x80 }) [0xC0]) 0xFFFC 0x53) 0xFFFD 0x01)
      (fun t => (t.pc, t.sp, t.lastCycles)) = some (0x0101, 0xFFFC, 8)) := by decide +kernel

/-- V-CT-21, V-CT-22. -/
theorem test_reti_rst :
    (after (put (put (code ({ launched with sp := 0xFFFC, ime := false, inService := true }) [0xD9]) 0xFFFC 0x53) 0xFFFD 0x01)
      (fun t => (t.pc, t.sp, t.ime, t.inService, t.lastCycles)) = some (0x0153, 0xFFFE, true, false, 16)) ∧
    (after (code ({ launched with sp := 0xD000, pc := 0x0234 }) [0xEF])
     
      (fun t => (t.pc, t.sp, t.read8 0xCFFF false, t.read8 0xCFFE false, t.lastCycles)) = some (0x0028, 0xCFFE, 0x02, 0x35, 16)) := by
  decide +kernel

/-- V-CT-25. -/
theorem test_taken_extra :
    after (code ({ launched with f := 0x80, pc := 0x0200, params := { Config.Params.default with takenExtra := [(0xCA, 4)] } }) [0xCA, 0x00, 0x80])
      (fun t => (t.pc, t.lastCycles)) = some (0x8000, 16) := by decide +kernel

/-- V-CT-27. -/
theorem test_pc_wraps :
    after (code ({ launched with pc := 0xFFFF }) [0x00]) (fun t => (t.pc, t.lastCycles)) = some (0x0000, 4) := by
  decide +kernel

/-- V-SYS-1, V-SYS-2, V-SYS-4. -/
theorem test_nop_halt_stop :
    (after (code (launched) [0x00]) (fun t => (t.pc, t.lastCycles)) = some (0x0101, 4)) ∧
    (after (code ({ launched with pc := 0x0150 }) [0x76])
      (fun t => (t.pc, t.halted, t.lastCycles)) = some (0x0151, true, 4)) ∧
    (after (code (launched) [0x10, 0x00]) (fun t => (t.pc, t.halted, t.lastCycles)) = some (0x0102, false, 4)) := by
  decide +kernel

/-- V-SYS-6, V-SYS-7. -/
theorem test_di_ei :
    (after (code ({ launched with ime := true }) [0xF3]) (fun t => (t.ime, t.lastCycles)) = some (false, 4)) ∧
    (after (code ({ launched with ime := false }) [0xFB]) (fun t => (t.ime, t.lastCycles)) = some (true, 4)) := by
  decide +kernel

/-- V-SYS-8, V-SYS-11. -/
theorem test_prefix :
    (after (code ({ launched with a := 0x12 }) [0xCB, 0x37])
      (fun t => (t.a, t.pc, t.lastCycles)) = some (0x21, 0x0102, 8)) ∧
    (after (code (launched) [0xCB, 0xDD]) (fun t => (t.l, t.pc)) = some (0x08, 0x0102)) := by decide +kernel

/-- V-SYS-9, V-SYS-ill-D3, V-SYS-ill-FD. -/
theorem test_illegal :
    (faultOf (code (launched) [0xDD]) = some (.illegalOpcode 0xDD 0x0100)) ∧
    (faultOf (code (launched) [0xD3]) = some (.illegalOpcode 0xD3 0x0100)) ∧
    (faultOf (code (launched) [0xFD]) = some (.illegalOpcode 0xFD 0x0100)) := by decide +kernel

/-- V-CT-26: the fetch wraps, its operand bytes in `IE` and at 0x0000. -/
theorem test_fetch_wraps :
    after (code { launched with pc := 0xFFFE } [0xC3, 0x03, 0x01]) (fun t => (t.pc, t.lastCycles)) = some (0x0103, 16) := by
  decide +kernel

/-- The launch defaults with `poll()` a constant. -/
def polled (v : Byte) : State := { launched with params := { Config.Params.default with poll := .listed [] v } }

/-- V-LD-14, T-BUS-8, and the default of R7: a program read of `JOYP` gives `poll()`, an internal one the stored byte. -/
theorem test_joypad_read :
    (after (put (code (polled 0xEF) [0xF0, 0x00]) Config.JOYP 0x30) (fun t => (t.a, t.lastCycles)) = some (0xEF, 12)) ∧
    (let t := (polled 0xEE).write8 Config.JOYP 0x20 true;
      t.read8 Config.JOYP true = 0xEE ∧ t.read8 Config.JOYP false = 0x20) ∧
    launched.read8 Config.JOYP true = 0xFF := by decide +kernel

/-- R67: the input source may answer otherwise in the next step. -/
theorem test_poll_by_step :
    (after (code { launched with params := { Config.Params.default with poll := .listed [0xFE, 0xFD] 0xFF } } [0xF0, 0x00])
      (fun t => (t.a, t.read8 Config.JOYP true)) = some (0xFE, 0xFD)) := by decide +kernel

/-! ### Scenarios (spec/95_test_vectors.md, section 2), one step or one bus transaction each -/

/-- The machine at `PC = 0x0150` with `SP = 0xFFFE` and given `IE` and `IF`. -/
def pendingAt (s : State) (ie fl : Byte) : State :=
  put (put { s with pc := 0x0150, sp := 0xFFFE } Config.IE ie) Config.IF fl

/-- What the scenarios of section 2.5 look at. -/
structure Seen where
  pc : Word
  sp : Word
  ime : Bool
  halted : Bool
  inService : Bool
  enabled : Byte
  requested : Byte
  deriving DecidableEq, Repr

def seen (t : State) : Seen :=
  ⟨t.pc, t.sp, t.ime, t.halted, t.inService, t.read8 Config.IE false, t.read8 Config.IF false⟩

/-- T-INT-1: the lowest index first; its `NOP` runs in the same step. -/
theorem test_interrupt_priority :
    after (pendingAt { launched with ime := true } 0x05 0x05)
      (fun t => (seen t, t.read8 0xFFFD false, t.read8 0xFFFC false, t.lastCycles)) =
      some (⟨0x0041, 0xFFFC, false, false, true, 0x04, 0x04⟩, 0x01, 0x50, 4) := by decide +kernel

/-- T-INT-3, its first step, by way of `RETI` at the vector. -/
theorem test_interrupt_and_return :
    after (put (pendingAt { launched with ime := true } 0x1F 0x1F) 0x0040 0xD9) (fun t => (seen t, t.lastCycles)) =
      some (⟨0x0150, 0xFFFE, true, false, false, 0x1E, 0x1E⟩, 16) := by decide +kernel

/-- T-INT-4: a masked request wakes and is not serviced. -/
theorem test_masked_wake :
    after (put (pendingAt { launched with halted := true, a := 0x10 } 0x04 0x04) 0x0150 0x3C) (fun t => (seen t, t.a)) =
      some (⟨0x0151, 0xFFFE, false, false, false, 0x04, 0x04⟩, 0x11) := by decide +kernel

/-- T-INT-6: the latch blocks even the wake. -/
theorem test_latch_blocks_wake :
    after (pendingAt { launched with halted := true, ime := true, inService := true } 0x04 0x04)
      (fun t => (seen t, t.lastCycles)) = some (⟨0x0150, 0xFFFE, true, true, true, 0x04, 0x04⟩, 4) := by decide +kernel

/-- T-INT-8, T-INT-9: a request that is not enabled, and bits that are no sources, do nothing. -/
theorem test_no_source_pending :
    (after (pendingAt { launched with halted := true, ime := true } 0x1B 0x04) seen =
      some ⟨0x0150, 0xFFFE, true, true, false, 0x1B, 0x04⟩) ∧
    (after (pendingAt { launched with halted := true, ime := true } 0xE0 0xE0) seen =
      some ⟨0x0150, 0xFFFE, true, true, false, 0xE0, 0xE0⟩) := by decide +kernel

/-- T-INT-13, T-INT-14: the push of the service lands in `IE`, or in `IF`. -/
theorem test_service_push_into_interrupt_registers :
    (after (put (put { launched with pc := 0x1F50, sp := 0x0000, ime := true } Config.IE 0x01) Config.IF 0x01) seen =
      some ⟨0x0041, 0xFFFE, false, false, true, 0x1E, 0x00⟩) ∧
    (after (put (put { launched with pc := 0x0250, sp := 0xFF10, ime := true } Config.IE 0x01) Config.IF 0x01) seen =
      some ⟨0x0041, 0xFF0E, false, false, true, 0x00, 0x02⟩) := by decide +kernel

/-- T-INT-16, its first step: an overflow at the end of a step is not seen by that step's check. -/
theorem test_overflow_seen_by_the_next_check :
    after (put (put (put (pendingAt { launched with ime := true, timaAcc := 12 } 0x00 0x00) Config.TAC 0x05) Config.TIMA 0xFF)
      Config.TMA 0xF0) (fun t => (seen t, t.read8 Config.TIMA false, t.timaAcc)) =
      some (⟨0x0151, 0xFFFE, true, false, false, 0x04, 0x04⟩, 0xF0, 0) := by decide +kernel

/-- T-TIM-11, T-TIM-12: two increments, or two overflows, in one step of 24 cycles. -/
theorem test_timer_within_a_step :
    (after (code (put (put { launched with timaAcc := 15, sp := 0xD000 } Config.TAC 0x05) Config.TIMA 0x10) [0xCD, 0x00, 0x02])
      (fun t => (t.read8 Config.TIMA false, t.timaAcc)) = some (0x12, 7)) ∧
    (after (code (put (put (put { launched with timaAcc := 15, sp := 0xD000 } Config.TAC 0x05) Config.TIMA 0xFF)
      Config.TMA 0xFF) [0xCD, 0x00, 0x02])
      (fun t => (t.read8 Config.TIMA false, t.timaAcc, t.read8 Config.IF false)) = some (0xFF, 7, 0x04)) := by
  decide +kernel

/-- T-TIM-13: changing the speed keeps the accumulator, and the comparison is `>=`. -/
theorem test_timer_speed_change :
    after (code (put { launched with timaAcc := 100, a := 0x05 } Config.TAC 0x04) [0xE0, 0x07])
      (fun t => (t.read8 Config.TAC false, t.read8 Config.TIMA false, t.timaAcc)) = some (0x05, 0x01, 11) := by
  decide +kernel

/-- T-TIM-1 and T-TIM-2 at their last step: one increment per 256 cycles, a silent wrap. -/
theorem test_divider :
    (after { launched with divAcc := 252 } (fun t => (t.read8 Config.DIV false, t.divAcc)) = some (0x01, 0)) ∧
    (after (put { launched with divAcc := 252 } Config.DIV 0xFF)
      (fun t => (t.read8 Config.DIV false, t.divAcc, t.read8 Config.IF false)) = some (0x00, 0, 0x00)) := by
  decide +kernel

/-- T-BUS-3, T-BUS-6, T-BUS-7: the echo range, and the writes to `DIV` and `LY`. -/
theorem test_bus_mirror_and_registers :
    (launched.write8 0xC123 0x9C true).read8 0xE123 true = 0x9C ∧ (launched.write8 0xFDFF 0x3D true).read8 0xDDFF true = 0x3D ∧
    (launched.write8 0xE000 0x42 true).read8 0xC000 true = 0x42 ∧
    (launched.write8 Config.DIV 0x99 false).read8 Config.DIV false = 0x99 ∧
    ((put launched Config.DIV 0x55).write8 Config.DIV 0x99 true).read8 Config.DIV false = 0x00 ∧
    ((put launched Config.LY 0x90).write8 Config.LY 0x91 true).read8 Config.LY false = 0x00 := by decide +kernel

/-- The machine of T-BUS-9. -/
def overlaid : State :=
  { (put (put (put launched 0x0000 0x11) 0x00FF 0x22) 0x0100 0x33).setCell ⟨.bootrom, 0, 0xFF⟩ 0xAF with bootDone := false }

/-- T-BUS-9, T-BUS-10, T-BUS-11: the overlay, a write under it, and the latch. -/
theorem test_bus_overlay :
    overlaid.read8 0x00FF true = 0xAF ∧ overlaid.read8 0x0100 true = 0x33 ∧
    ((overlaid.write8 0x0000 0x77 true).read8 0x0000 true = 0x77 ∧
      (overlaid.write8 0x0000 0x77 true).cell ⟨.rom0, 0, 0⟩ = 0x11) ∧
    (overlaid.write8 Config.BOOT 0x00 true).bootDone = false ∧ (overlaid.write8 Config.BOOT 0x01 true).bootDone = true ∧
    (overlaid.write8 Config.BOOT 0x01 true).read8 0x0000 true = 0x11 ∧
    ((overlaid.write8 Config.BOOT 0x01 true).write8 Config.BOOT 0x00 true).bootDone = true := by decide +kernel

/-- T-BUS-12: a 16-bit access wraps from `IE` to ROM. -/
theorem test_bus_wraps :
    (launched.write16 0xFFFF 0xABCD true).read8 Config.IE false = 0xCD ∧
    (launched.write16 0xFFFF 0xABCD true).read8 0x0000 false = 0xAB ∧
    (launched.write16 0xFFFF 0xABCD true).read16 0xFFFF true = 0xABCD := by decide +kernel

/-- T-DMA-2 and T-DMA-5, two bytes each: the copy comes before the store, and rejected source reads give the sentinel. -/
theorem test_dma :
    (let t := (put (put launched 0xFF9F 0xDC) Config.DMA 0x5E).write8 Config.DMA 0xFF true;
      t.cell ⟨.oam, 0, 0x46⟩ = 0x5E ∧ t.cell ⟨.oam, 0, 159⟩ = 0xDC ∧ t.read8 Config.DMA false = 0xFF) ∧
    (let t := (put (put launched 0xFE00 0xEE) 0xFE9F 0xEE).write8 Config.DMA 0xA0 true;
      t.cell ⟨.oam, 0, 0⟩ = 0x00 ∧ t.cell ⟨.oam, 0, 159⟩ = 0x00) := by decide +kernel

/-- T-STK: a push into the unusable range is lost (V-L16-17's push and pop). -/
theorem test_stack_in_the_unusable_range :
    ({ launched with sp := 0xFEA2 }.push16 0x1234).popValue = 0x0000 ∧
    ({ launched with sp := 0xD000 }.push16 0x8001).popValue = 0x8001 := by decide +kernel

/-! ### The end of a step, launching, placing code -/

/-- Two entries for the peripherals: in the first, one byte of each buffer, the one of `OAM` past its end. -/
def scripted (e : Config.EnvStep) : State :=
  { launched with
    envQueue := [[⟨.io, 0x0F, 0x01⟩, ⟨.vram, 0, 0x5A⟩, ⟨.oam, 0xA0, 0x77⟩], []]
    params := { Config.Params.default with envStep := e } }

/-- R349: what is queued for the peripherals is written at the end of the step, and once; nothing is, by the identity. -/
theorem test_peripherals :
    (after (scripted .queued) (fun t => (t.read8 Config.IF false, t.read8 0x8000 false, t.envQueue.length, t.stepIndex)) =
      some (0x01, 0x5A, 1, 1)) ∧
    (after (scripted .identity) (fun t => (t.read8 Config.IF false, t.read8 0x8000 false, t.envQueue.length, t.stepIndex)) =
      some (0x00, 0x00, 1, 1)) := by decide +kernel

/-- R373: the boot-skip registers. -/
theorem test_bootSkip :
    let t := State.reset.bootSkip BootSkip.default
    (t.pc, t.sp, t.a, t.f, t.bc, t.de, t.hl) = (0x0100, 0xFFFE, 0x01, 0xB0, 0x0013, 0x00D8, 0x014D) ∧
    t.bootDone = true ∧ t.read8 Config.BOOT false = 0x01 := by decide +kernel

/-- A loader that fills four bytes of a bank, the last one past the image (R371). -/
theorem test_fill :
    let c := Cartridge.mk [0x31, 0xFE, 0xFF] 0x5A [] [] [] Config.Params.default
    let t := launched.fill .rom0 0 c.imageByte 0 4
    (t.read8 0 true, t.read8 1 true, t.read8 2 true, t.read8 3 true) = (0x31, 0xFE, 0xFF, 0x5A) := by decide +kernel

/-- The table's words run as the first instruction after reset: a 24-bit row, and an extended row. -/
theorem test_withFetchWord :
    after (State.reset.withFetchWord 24 0x1234_21) (fun t => (t.hl, t.pc, t.lastCycles)) = some (0x1234, 0x0003, 12) ∧
    after (State.reset.withFetchWord 16 0xCBC7) (fun t => (t.a, t.pc, t.lastCycles)) = some (0x01, 0x0002, 8) := by
  decide +kernel

/-- Storage is canonical at reset, and writing what an unlisted cell reads as removes the entry. -/
theorem test_storage_canonical :
    State.reset.mem.wf = true ∧ (put (put launched 0xC000 0x5A) 0xC000 0x00).mem = [] ∧
    (put (put launched 0xC001 0x01) 0xC000 0x02).mem.wf = true := by decide +kernel

/-! ### The hypotheses of the claims are met -/

/-- `PopReadsLowByteThenHighByte`. -/
theorem witness_pop : StackPair.bc ≠ .af ∧ StackPair.de ≠ .af ∧ StackPair.hl ≠ .af := by decide

/-- Both ends of two regions of plain storage. -/
theorem plainStorage_launched :
    (plainStorage launched 0xCFFF ∧ plainStorage launched 0xCFFE) ∧ plainStorage launched 0x0000 ∧
      plainStorage launched 0xFFFF := by
  unfold plainStorage; decide +kernel

theorem fixedMap_launched : fixedMap launched := ⟨rfl, 0, rfl⟩

/-- `PushThenPopGivesTheValueBack`, at `SP = 0xD000` and at `SP = 0x0001`, whose stack bytes are ROM and `IE`. -/
theorem witness_push_pop :
    (∃ s : State, fixedMap s ∧ plainStorage s (s.sp - 1) ∧ plainStorage s (s.sp - 2) ∧ s.sp = 0xD000) ∧
    (∃ s : State, fixedMap s ∧ plainStorage s (s.sp - 1) ∧ plainStorage s (s.sp - 2) ∧ s.sp = 0x0001) := by
  refine ⟨⟨{ launched with sp := 0xD000 }, ⟨rfl, 0, rfl⟩, ?_, ?_, rfl⟩,
    ⟨{ launched with sp := 0x0001 }, ⟨rfl, 0, rfl⟩, ?_, ?_, rfl⟩⟩ <;> (unfold plainStorage; decide +kernel)

/-- `ConditionalTransfersFollowTheFlag` and `ReportedCyclesAreTheTables`: each condition holds somewhere and fails
somewhere. -/
theorem witness_conditions :
    ({ launched with f := 0x00 }.cond .nz = true ∧ { launched with f := 0x80 }.cond .nz = false) ∧
    ({ launched with f := 0x80 }.cond .z = true ∧ { launched with f := 0x00 }.cond .z = false) ∧
    ({ launched with f := 0x00 }.cond .nc = true ∧ { launched with f := 0x10 }.cond .nc = false) ∧
    ({ launched with f := 0x10 }.cond .c = true ∧ { launched with f := 0x00 }.cond .c = false) ∧
    Instr.nop.condition = none ∧ (Instr.jpCond 0 .nz).condition = some .nz := by decide

/-- `ConditionalTransfersFollowTheFlag`: its condition in the flags, both ways, for each of the four. -/
theorem witness_flag_values :
    ({ launched with f := 0x00 }.zFlag = false ∧ { launched with f := 0x00 }.cFlag = false) ∧
    ({ launched with f := 0x90 }.zFlag = true ∧ { launched with f := 0x90 }.cFlag = true) := by decide

/-- `HaltSuspendsDecode`. -/
theorem witness_halted : ∃ s : State, s.halted = true := ⟨{ launched with halted := true }, rfl⟩

/-- `OnlyIllegalOpcodesStopTheMachine`, for the first and the last of the opcodes. -/
theorem witness_illegal :
    (let s := code launched [0xD3];
      s.checkInterrupt.halted = false ∧ s.checkInterrupt.read8 s.checkInterrupt.pc true = 0xD3 ∧
        faultOf s = some (.illegalOpcode 0xD3 0x0100)) ∧
    (let s := code launched [0xFD];
      s.checkInterrupt.halted = false ∧ s.checkInterrupt.read8 s.checkInterrupt.pc true = 0xFD ∧
        faultOf s = some (.illegalOpcode 0xFD 0x0100)) := by decide +kernel

/-- `StepRunsTheDecodedInstruction`, for an instruction with an operand byte. -/
theorem witness_step_runs :
    ∃ (s u v t : State) (i : Instr) (rest : List Byte),
      u = s.checkInterrupt ∧ u.halted = false ∧
      v = (if u.read8 u.pc true = 0xCB then u
        else { u with pc := u.pc + BitVec.ofNat 16 (lengthOf (u.read8 u.pc true)) }) ∧
      decode [u.read8 u.pc true, v.read8 (u.pc + 1) true, v.read8 (u.pc + 2) true] = .ok (i, rest) ∧
      exec i { u with pc := u.pc + BitVec.ofNat 16 i.length } = .next t ∧ i = .ld_A_n 0x77 := by
  refine ⟨code launched [0x3E, 0x77], _, _, _, .ld_A_n 0x77, [0x00], rfl, ?_, rfl, ?_, rfl, rfl⟩ <;> decide +kernel

/-- `StepRunsTheDecodedInstruction`, for a 0xCB pair. -/
theorem witness_step_runs_extended :
    ∃ (s u v t : State) (i : Instr) (rest : List Byte),
      u = s.checkInterrupt ∧ u.halted = false ∧
      v = (if u.read8 u.pc true = 0xCB then u
        else { u with pc := u.pc + BitVec.ofNat 16 (lengthOf (u.read8 u.pc true)) }) ∧
      decode [u.read8 u.pc true, v.read8 (u.pc + 1) true, v.read8 (u.pc + 2) true] = .ok (i, rest) ∧
      exec i { u with pc := u.pc + BitVec.ofNat 16 i.length } = .next t ∧ i = .set7_A := by
  refine ⟨code launched [0xCB, 0xFF], _, _, _, .set7_A, [0x00], rfl, ?_, rfl, ?_, rfl, rfl⟩ <;> decide +kernel

/-- `CheckServicesTheLowestPendingSource`, a state for each clause: the latch, nothing pending, a masked request, and
the lowest and the highest source alone pending. -/
theorem witness_check :
    { launched with inService := true }.inService = true ∧ nothingPending launched = true ∧
    (let s := pendingAt launched 0x04 0x04;
      s.inService = false ∧ pending s .timer = true ∧ s.ime = false) ∧
    (let s := pendingAt { launched with ime := true } 0x1F 0x1F;
      s.inService = false ∧ pending s .vblank = true ∧
        (Source.all.all fun j => decide (j.index < Source.vblank.index → pending s j = false)) = true ∧ s.ime = true) ∧
    (let s := pendingAt { launched with ime := true } 0x10 0x1F;
      s.inService = false ∧ pending s .joypad = true ∧
        (Source.all.all fun j => decide (j.index < Source.joypad.index → pending s j = false)) = true ∧ s.ime = true) := by
  decide +kernel

/-- `OnlyReturnFromInterruptClearsTheLatch`. -/
theorem witness_latch : ∃ (i : Instr) (s t : State), exec i s = .next t ∧ i ≠ .reti ∧ t.inService = true :=
  ⟨.ret, { launched with inService := true }, _, rfl, by decide, rfl⟩

/-- `HaltInsideAHandlerHangs`. -/
theorem witness_hung : hung { launched with halted := true, inService := true } = true := by decide

/-- A machine with one bank of external RAM. -/
def withEram : State := { launched with params := { Config.Params.default with eramBanks := 1 } }

/-- `EveryValidAddressHasOneCell` and `RejectedAccessHasNoEffect`, at the ends of the two ranges and one past them. -/
theorem witness_valid :
    paramsLegal launched = true ∧ paramsLegal withEram = true ∧
    ([0x0000, 0x9FFF, 0xC000, 0xFE9F, 0xFF00, 0xFFFF].all fun a => launched.valid (BitVec.ofNat 16 a)) = true ∧
    ([0xA000, 0xBFFF, 0xFEA0, 0xFEFF].all fun a => !launched.valid (BitVec.ofNat 16 a)) = true ∧
    ([0xA000, 0xBFFF].all fun a => withEram.valid (BitVec.ofNat 16 a)) = true ∧
    (let s := { withEram with banks := { withEram.banks with ramEnable := false } };
      [0xA000, 0xBFFF].all fun a => !s.valid (BitVec.ofNat 16 a)) = true := by decide +kernel

/-- `RegionsShowTheirCells`, at the ends of the regions, with and without the overlay. -/
theorem witness_regions :
    ({ launched with bootDone := false }.resolve 0x00FF = some ⟨.bootrom, 0, 0xFF⟩ ∧
      { launched with bootDone := false }.resolve 0x0100 = some ⟨.rom0, 0, 0x100⟩) ∧
    (launched.resolve 0x0000 = some ⟨.rom0, 0, 0⟩ ∧ launched.resolve 0x3FFF = some ⟨.rom0, 0, 0x3FFF⟩) ∧
    (launched.resolve 0x4000 = some ⟨.romx, 1, 0⟩ ∧ launched.resolve 0x7FFF = some ⟨.romx, 1, 0x3FFF⟩) ∧
    (launched.resolve 0xC000 = some ⟨.wram, 0, 0⟩ ∧ launched.resolve 0xEFFF = some ⟨.wram, 0, 0xFFF⟩) ∧
    (launched.resolve 0xD000 = some ⟨.wram, 1, 0⟩ ∧ launched.resolve 0xDFFF = some ⟨.wram, 1, 0xFFF⟩) ∧
    (launched.resolve 0xF000 = some ⟨.wram, 1, 0⟩ ∧ launched.resolve 0xFDFF = some ⟨.wram, 1, 0xDFF⟩) := by
  decide +kernel

/-- `WrittenByteIsReadBackAndOthersStand`. -/
theorem witness_written :
    fixedMap launched ∧ plainStorage launched 0xFFFF ∧ launched.resolve 0xFF0F ≠ launched.resolve 0xFFFF :=
  ⟨fixedMap_launched, plainStorage_launched.2.2, by decide +kernel⟩

/-- `WriteChangesOnlyItsCell` and `StoringFormsChangeOnlyTheirCell`: a cell that is not the one stored to, for a plain
address, for the DMA register and for a rejected address, in a machine without a controller. -/
theorem witness_frame :
    launched.params.controller = .noController ∧ Config.DMA ≠ Config.BOOT ∧
    (launched.valid 0xC000 = true ∧ (launched.beforeStore 0xC000 1).resolve 0xC000 ≠ some ⟨.wram, 0, 1⟩) ∧
    (launched.valid Config.DMA = true ∧ (launched.beforeStore Config.DMA 1).resolve Config.DMA ≠ some ⟨.wram, 0, 0⟩ ∧
      (Loc.mk .wram 0 0).buf ≠ .oam) ∧
    launched.valid 0xFEA0 = false ∧ (∃ t, exec (.ld .atHL (.reg .b)) launched = .next t) :=
  ⟨rfl, by decide, by decide +kernel, by decide +kernel, by decide +kernel, _, rfl⟩

/-- `DividerAndLineWritesStoreZero`. -/
theorem witness_divider_and_line : Config.DIV = 0xFF04 ∧ Config.LY = 0xFF44 := by decide

/-- `DmaCopiesTheSourcePage`: the first and the last byte of the source page of `v = 0xC1`. -/
theorem witness_dma :
    fixedMap launched ∧ 0 < 160 ∧ 159 < 160 ∧
    ((put (put launched 0xC100 0x11) 0xC19F 0x22).write8 Config.DMA 0xC1 true).cell ⟨.oam, 0, 0⟩ = 0x11 ∧
    ((put (put launched 0xC100 0x11) 0xC19F 0x22).write8 Config.DMA 0xC1 true).cell ⟨.oam, 0, 159⟩ = 0x22 :=
  ⟨fixedMap_launched, by decide, by decide, by decide +kernel, by decide +kernel⟩

/-- `StepKeepsParametersAndBootLatch` and `EveryStepKeepsTheInvariant`. -/
theorem witness_step : ∃ s t : State, Safety.Inv s ∧ step s = .next t ∧ s.bootDone = true :=
  ⟨launched, (launched.advancePC .nop).endStep 4, by unfold Safety.Inv; decide, rfl, rfl⟩

/-- `DividerCountsEveryCycle`, at both ends of its range. -/
theorem witness_divider_counts :
    { launched with divAcc := 0 }.divAcc ≤ 255 ∧ { launched with divAcc := 255 }.divAcc ≤ 255 := by decide

/-- `JoypadReadsPoll`: an instruction completes, and the parameters of reset are the defaults. -/
theorem witness_joypad : (∃ t, exec .nop launched = .next t) ∧ launched.params = Config.Params.default :=
  ⟨⟨_, rfl⟩, rfl⟩

/-- The threshold the claims about the counter compare with. -/
def thresholdOf (tac : Nat) : Nat :=
  if tac % 4 = 0 then 1024 else if tac % 4 = 1 then 16 else if tac % 4 = 2 then 64 else 256

/-- A machine with the counter's registers and accumulator set. -/
def counting (tac tima : Byte) (acc : Nat) : State :=
  put (put { launched with timaAcc := acc } Config.TAC tac) Config.TIMA tima

/-- The premises of the claims about the counter: enabled, at the threshold, `TIMA` full. -/
def premises (s : State) : Bool × Bool × Bool :=
  let tac := (s.read8 Config.TAC false).toNat
  (decide ((tac / 4) % 2 = 1), decide (thresholdOf tac ≤ s.timaAcc + 1), decide (s.read8 Config.TIMA false = 0xFF))

/-- `CounterCountsAtTheSelectedRate` and `CounterOverflowReloadsAndRequests`: disabled; enabled below the threshold by
one, and at it, with `TIMA` one below its maximum and at it, for the four speeds. -/
theorem witness_counter :
    (premises (counting 0x03 0xFF 255)).1 = false ∧
    ([(0x04, 1023), (0x05, 15), (0x06, 63), (0x07, 255)].all fun x =>
      premises (counting (BitVec.ofNat 8 x.1) 0xFE (x.2 - 1)) == (true, false, false) &&
      premises (counting (BitVec.ofNat 8 x.1) 0xFE x.2) == (true, true, false) &&
      premises (counting (BitVec.ofNat 8 x.1) 0xFF x.2) == (true, true, true)) = true := by decide +kernel

/-- `DecodeInvertsEncode`: one instruction of each format. -/
theorem witness_wellFormed :
    ([Instr.nop, .ld_A_n 0xFF, .jr 0x80, .jp 0xFFFF, .set7_A].all Instr.wellFormed) = true := by decide

end Sys2Proof.Tests
end

/-! ### Family 00_scope -/

namespace Sys2Proof.Machine

/-- The end of a step, in the fields a step keeps or counts: the peripherals move only the step index. -/
theorem State.endStep_fields (s : State) (n : Nat) :
    (s.endStep n).params = (s.tickTimer n).params ∧ (s.endStep n).bootDone = (s.tickTimer n).bootDone ∧
      (s.endStep n).stepIndex = (s.tickTimer n).stepIndex + 1 := by
  rw [State.endStep, State.peripherals_eq]
  exact ⟨rfl, rfl, rfl⟩

/-- Settles O52: everything before the peripherals keeps the three fields (`Keeps`), and the peripherals only count the
step. -/
theorem stepKeepsParametersAndBootLatch : Obligations.StepKeepsParametersAndBootLatch := by
  intro s t h
  obtain ⟨u, n, hu, rfl⟩ := step_cases h
  have hkeeps : Keeps s (u.tickTimer n) := .beforePeripherals hu
  obtain ⟨hparams, hboot, hindex⟩ := u.endStep_fields n
  rw [hparams, hboot, hindex]
  exact ⟨hkeeps.params, hkeeps.boot, congrArg (· + 1) hkeeps.index⟩

end Sys2Proof.Machine

/-! ### Family 10_state -/

namespace Sys2Proof.Machine

open Safety

/-- The invariant as propositions about the fields (R24, R30, R31, R371). -/
theorem inv_iff (s : State) :
    Inv s ↔ s.mem.wf = true ∧ s.f &&& 0x0F = 0 ∧ (s.divAcc ≤ 255 ∧ s.timaAcc ≤ 1023) ∧
      2 ≤ s.params.romBanks ∧ s.params.bootSize ≤ 0x4000 := by
  simp only [Safety.Inv, flagsClean, accumulatorsBounded, paramsLegal, beq_iff_eq, Bool.and_eq_true, decide_eq_true_eq]

/-- Each fact of the invariant is kept by whatever `Keeps` describes; the parameters are the same. -/
theorem Keeps.inv {s t : State} (hkeeps : Keeps s t) (h : Inv s) : Inv t := by
  rw [inv_iff] at h ⊢
  obtain ⟨hwf, hflags, ⟨hdiv, htima⟩, hparams⟩ := h
  exact ⟨hkeeps.wf hwf, hkeeps.flags hflags, ⟨hkeeps.div hdiv, hkeeps.tima htima⟩, hkeeps.params ▸ hparams⟩

/-- The peripherals write storage through `setCell`, which keeps it canonical; the rest of the invariant is about fields
they do not reach (R349). -/
theorem inv_peripherals {s : State} (h : Inv s) (n : Nat) : Inv (s.peripherals n) := by
  obtain ⟨hwf, hrest⟩ := h
  have hwf' : (s.peripherals n).mem.wf = true := State.wf_peripherals hwf n
  rw [State.peripherals_eq] at hwf' ⊢
  exact ⟨hwf', hrest⟩

/-- Settles O60: everything before the peripherals keeps the invariant by `Keeps`, and the peripherals keep it. -/
theorem everyStepKeepsTheInvariant : Obligations.EveryStepKeepsTheInvariant := by
  intro s t hinv h
  obtain ⟨u, n, hu, rfl⟩ := step_cases h
  have htimer : Inv (u.tickTimer n) := (Keeps.beforePeripherals hu).inv hinv
  exact inv_peripherals htimer n

/-- Settles O37: the engine's values are those `State.reset` lists, and nothing is listed in its storage, so every
register of the bus reads 0x00. -/
theorem resetValues : Obligations.ResetValues := by
  have hreg : ∀ r, State.reset.reg r = 0 := fun r => by cases r <;> rfl
  exact ⟨hreg, rfl, rfl, rfl, rfl, rfl, rfl, rfl, rfl, rfl, rfl, rfl, fun a _ => State.read8_empty rfl a⟩

/-- Settles O59: storage is empty, `F` and the accumulators are 0, and the default parameters are within the bounds. -/
theorem resetMeetsTheInvariant : Obligations.ResetMeetsTheInvariant := by
  refine (inv_iff _).2 ⟨Memory.wf_nil, rfl, ⟨Nat.zero_le _, Nat.zero_le _⟩, ?_⟩
  decide

end Sys2Proof.Machine

/-! ### Family 20_memory -/

namespace Sys2Proof.Machine

open Safety

/-! #### Regions and rejection -/

theorem region_eq_iff (a : Word) (r : Region) : region a = r ↔ r.first ≤ a.toNat ∧ a.toNat < r.limit := by
  constructor
  · rintro rfl
    exact region_range a
  · exact fun ⟨hfirst, hlimit⟩ => region_eq hfirst hlimit

/-- The two clauses of R65. -/
theorem State.valid_eq_false_iff_region (s : State) (a : Word) :
    s.valid a = false ↔
      region a = .UNUSABLE ∨ (region a = .ERAM ∧ (s.params.eramBanks = 0 ∨ s.banks.ramEnable = false)) := by
  cases h : region a
  case ERAM => simp [State.valid, h, Decidable.imp_iff_not_or]
  all_goals simp [State.valid, h]

theorem region_eq_unusable_iff (a : Word) : region a = .UNUSABLE ↔ 0xFEA0 ≤ a.toNat ∧ a.toNat ≤ 0xFEFF :=
  (region_eq_iff a _).trans (and_congr_right fun _ => Nat.lt_succ_iff)

theorem region_eq_eram_iff (a : Word) : region a = .ERAM ↔ 0xA000 ≤ a.toNat ∧ a.toNat ≤ 0xBFFF :=
  (region_eq_iff a _).trans (and_congr_right fun _ => Nat.lt_succ_iff)

/-- R65 in addresses. -/
theorem State.valid_eq_false_iff (s : State) (a : Word) :
    s.valid a = false ↔ (0xFEA0 ≤ a.toNat ∧ a.toNat ≤ 0xFEFF) ∨
      (0xA000 ≤ a.toNat ∧ a.toNat ≤ 0xBFFF ∧ (s.params.eramBanks = 0 ∨ s.banks.ramEnable = false)) := by
  rw [s.valid_eq_false_iff_region, region_eq_unusable_iff, region_eq_eram_iff, and_assoc]

/-! #### The cell of an address -/

/-- Every region shows its buffer from the first address on, the mirrors and the overlay included (R61, R68). -/
theorem State.resolve_off {s : State} {a : Word} {x : Loc} (h : s.resolve a = some x) :
    x.off = a.toNat - (region a).first := by
  have hrange := region_range a
  unfold State.resolve at h
  dsimp only at h
  cases hreg : region a <;> simp only [hreg, Region.first, Region.limit] at h hrange ⊢
  case ROM0 => split at h <;> cases h <;> rfl
  case UNUSABLE => cases h
  case IE => cases h; dsimp only; omega
  all_goals cases h; rfl

/-- The sprite table is shown in its own region only (R61). -/
theorem State.region_of_resolve_oam {s : State} {a : Word} {k n : Nat} (h : s.resolve a = some ⟨.oam, k, n⟩) :
    region a = .OAM := by
  unfold State.resolve at h
  dsimp only at h
  cases hreg : region a <;> simp only [hreg] at h
  case ROM0 => split at h <;> cases h
  case OAM => rfl
  all_goals cases h

/-- Bank selection stays below the bank count, and an offset below the buffer's size (R32, R68 to R73). -/
theorem State.exists_of_resolve {s : State} {a : Word} {x : Loc} (hrom : s.params.romBanks ≠ 0)
    (hv : s.valid a = true) (h : s.resolve a = some x) : x.exists_ s.params = true := by
  have hrange := region_range a
  have heram : region a = .ERAM → s.params.eramBanks ≠ 0 := fun hreg hzero => by
    rw [(s.valid_eq_false_iff_region a).2 (.inr ⟨hreg, .inl hzero⟩)] at hv
    cases hv
  have hsel : s.wramSel < 8 := Nat.lt_succ_of_le s.wramSel_range.2
  rw [Loc.exists_iff]
  unfold State.resolve at h
  dsimp only at h
  cases hreg : region a <;> simp only [hreg, Region.first, Region.limit] at h hrange
  case ROM0 =>
    split at h <;> cases h
    · rename_i hboot
      exact ⟨Nat.one_pos, hboot.1⟩
    · exact ⟨Nat.one_pos, hrange.2⟩
  case ROMX => cases h; exact ⟨Nat.mod_lt _ (Nat.pos_of_ne_zero hrom), by simp only [Buffer.size]; omega⟩
  case ERAM => cases h; exact ⟨Nat.mod_lt _ (Nat.pos_of_ne_zero (heram hreg)), by simp only [Buffer.size]; omega⟩
  case UNUSABLE => cases h
  all_goals cases h; simp only [Buffer.banks, Buffer.size]; omega

/-- No two regions are one address apart, so the offsets of neighbours differ within a region and at its edge. -/
theorem Region.first_ne_succ_first (r q : Region) : q.first ≠ r.first + 1 := by
  cases r <;> cases q <;> decide

/-- Neighbouring addresses have different cells, at every edge of a region and around the end of the address space. -/
theorem State.resolve_succ_ne {s : State} {a : Word} {x : Loc} (h : s.resolve a = some x) :
    s.resolve (a + 1) ≠ some x := by
  intro hsucc
  by_cases hlast : a = 0xFFFF
  · subst hlast
    rw [s.resolve_ie (by decide)] at h
    cases h
    have hrom : region (0xFFFF + 1) = .ROM0 := by decide
    simp only [State.resolve, hrom] at hsucc
    split at hsucc <;> cases hsucc
  · have hnat : (a + 1).toNat = a.toNat + 1 := by bv_omega
    have hrange := region_range a
    have hrange' := region_range (a + 1)
    have hoff := (State.resolve_off h).symm.trans (State.resolve_off hsucc)
    rw [hnat] at hrange' hoff
    by_cases hsame : (region (a + 1)).first ≤ a.toNat
    · have hreg : region a = region (a + 1) := region_eq hsame (by omega)
      rw [hreg] at hoff hrange
      omega
    · have := Region.first_ne_succ_first (region a) (region (a + 1))
      omega

/-! #### Reads under a fixed map -/

/-- A read depends on the parameters, the bank scalars, the boot latch, the step index and the byte of its cell. -/
theorem State.read8_congr {s t : State} (hmap : fixedMap s) (hparams : t.params = s.params)
    (hbanks : t.banks = s.banks) (hboot : t.bootDone = s.bootDone) (hindex : t.stepIndex = s.stepIndex) {a : Word}
    (hcell : ∀ x, s.resolve a = some x → t.cell x = s.cell x) (prog : Bool) : t.read8 a prog = s.read8 a prog := by
  obtain ⟨-, b, hsel⟩ := hmap
  have hpoll : t.poll = s.poll := by rw [State.poll, hparams, hindex]; rfl
  rw [State.read8, State.valid_congr hparams hbanks, State.resolve_congr hsel hparams hbanks hboot, hpoll, State.read8]
  cases hx : s.resolve a with
  | none => rfl
  | some x => simp only [hcell x hx]

/-- A byte put in a cell is not seen at the addresses of other cells. -/
theorem State.read8_setCell_other {s : State} (hmap : fixedMap s) {x : Loc} (hoff : x.off < 0x4000) {a : Word}
    (hne : s.resolve a ≠ some x) (v : Byte) (prog : Bool) : (s.setCell x v).read8 a prog = s.read8 a prog := by
  refine State.read8_congr (t := s.setCell x v) hmap rfl rfl rfl rfl (fun y hy => ?_) prog
  exact State.cell_setCell_other _ _ hoff (State.resolve_off_lt hy) fun hyx => hne (hyx ▸ hy)

/-- `SP` is not seen by a read. -/
theorem State.read8_sp {s : State} (hmap : fixedMap s) (w a : Word) (prog : Bool) :
    { s with sp := w }.read8 a prog = s.read8 a prog :=
  State.read8_congr (t := { s with sp := w }) hmap rfl rfl rfl rfl (fun _ _ => rfl) prog

theorem storedValue_of_ne {a : Word} (hdiv : a ≠ Config.DIV) (hly : a ≠ Config.LY) (v : Byte) (prog : Bool) :
    storedValue a v prog = v := if_neg fun h => h.2.elim hdiv hly

/-- A write to plain storage puts the byte in the cell of the address and does nothing else (R80). -/
theorem State.write8_plainStorage {s : State} (hmap : fixedMap s) {a : Word} (hplain : plainStorage s a) (v : Byte)
    (prog : Bool) : ∃ x, s.resolve a = some x ∧ s.write8 a v prog = s.setCell x v := by
  obtain ⟨hvalid, -, hdiv, hly, hdma, hboot⟩ := hplain
  obtain ⟨x, hx⟩ := State.valid_imp_resolve hvalid
  refine ⟨x, hx, ?_⟩
  rw [State.write8_plain v prog hmap.1 hvalid hdma hboot hx, storedValue_of_ne hdiv hly]

/-- Settles O45: the write is one `setCell`, which its own address sees and no address of another cell does. -/
theorem writtenByteIsReadBackAndOthersStand : Obligations.WrittenByteIsReadBackAndOthersStand := by
  intro s a v p q hmap hplain
  obtain ⟨x, hx, hwrite⟩ := State.write8_plainStorage hmap hplain v p
  rw [hwrite]
  constructor
  · obtain ⟨hvalid, hjoyp, -⟩ := hplain
    obtain ⟨-, b, hsel⟩ := hmap
    have hx' : (s.setCell x v).resolve a = some x := (State.resolve_setCell hsel x v a).trans hx
    rw [State.read8_of_resolve (s := s.setCell x v) hvalid (fun h => hjoyp h.2) hx']
    exact State.cell_setCell_self s x v
  · intro b hne
    exact State.read8_setCell_other hmap (State.resolve_off_lt hx) (hx ▸ hne) v q

/-- With no bank controller a push keeps everything that decides which addresses are valid. -/
theorem State.push8_params_banks {s : State} (hmap : fixedMap s) (v : Byte) :
    (s.push8 v).params = s.params ∧ (s.push8 v).banks = s.banks := by
  constructor
  · rw [State.push8_eq]
  · exact State.write8_banks_noController (s := { s with sp := s.sp - 1 }) hmap.1 _ _ _

/-- A byte pushed to plain storage is read back at the new top of the stack (R95). -/
theorem State.read8_push8 {s : State} (hmap : fixedMap s) (hplain : plainStorage s (s.sp - 1)) (v : Byte)
    (prog : Bool) : (s.push8 v).read8 (s.sp - 1) prog = v :=
  (writtenByteIsReadBackAndOthersStand { s with sp := s.sp - 1 } _ v true prog hmap hplain).1

/-- A push to plain storage is not seen at the addresses of other cells. -/
theorem State.read8_push8_other {s : State} (hmap : fixedMap s) (hplain : plainStorage s (s.sp - 1)) {a : Word}
    (hne : s.resolve a ≠ s.resolve (s.sp - 1)) (v : Byte) (prog : Bool) :
    (s.push8 v).read8 a prog = s.read8 a prog := by
  obtain ⟨b, hsel⟩ := hmap.2
  have hres : ∀ w, { s with sp := s.sp - 1 }.resolve w = s.resolve w := fun w =>
    State.resolve_congr (t := { s with sp := s.sp - 1 }) hsel rfl rfl rfl
  rw [← State.read8_sp hmap (s.sp - 1)]
  refine (writtenByteIsReadBackAndOthersStand { s with sp := s.sp - 1 } _ v true prog hmap hplain).2 a ?_
  rwa [hres, hres]

/-- Settles O11: the second push, to the neighbouring cell, leaves the byte of the first. -/
theorem pushThenPopGivesTheValueBack : Obligations.PushThenPopGivesTheValueBack := by
  intro s v hmap hhigh hlow
  have hsp : (s.push16 v).sp = s.sp - 2 := by rw [State.push16_eq]
  refine ⟨?_, by rw [State.popped, hsp]; bv_omega⟩
  generalize hu : s.push8 (hiByte v) = u
  have hpush : s.push16 v = u.push8 (loByte v) := by rw [← hu]; rfl
  obtain ⟨hparams, hbanks⟩ : u.params = s.params ∧ u.banks = s.banks := hu ▸ State.push8_params_banks hmap _
  have husp : u.sp - 1 = s.sp - 2 := by rw [← hu, State.push8_eq]; bv_omega
  have humap : fixedMap u := by rw [fixedMap, hparams]; exact hmap
  have huplain : plainStorage u (u.sp - 1) := by
    rw [husp, plainStorage, State.valid_congr hparams hbanks]
    exact hlow
  obtain ⟨x, hx⟩ := State.valid_imp_resolve huplain.1
  have hne : u.resolve (s.sp - 1) ≠ u.resolve (u.sp - 1) := by
    rw [hx, show s.sp - 1 = u.sp - 1 + 1 by rw [husp]; bv_omega]
    exact State.resolve_succ_ne hx
  have hlo : (s.push16 v).read8 (s.sp - 2) true = loByte v := by
    rw [hpush, ← husp]
    exact State.read8_push8 humap huplain _ _
  have hhi : (s.push16 v).read8 (s.sp - 1) true = hiByte v := by
    rw [hpush, State.read8_push8_other humap huplain hne, ← hu]
    exact State.read8_push8 hmap hhigh _ _
  have hmap' : fixedMap (s.push16 v) := by rw [State.push16_eq]; exact hmap
  have hhi' : { s.push16 v with sp := s.sp - 1 }.read8 (s.sp - 1) true = hiByte v :=
    (State.read8_sp hmap' _ _ _).trans hhi
  rw [State.popValue, State.memRead, State.memRead, hsp, hlo, show s.sp - 2 + 1 = s.sp - 1 by bv_omega, hhi',
    wordOf_loByte_hiByte]

/-- Settles O42: the cell exists by the bounds of its region and bank; R65's two clauses are the rejected regions. -/
theorem everyValidAddressHasOneCell : Obligations.EveryValidAddressHasOneCell := by
  intro s a hlegal
  have hrom : s.params.romBanks ≠ 0 := by
    simp only [paramsLegal, Bool.and_eq_true, decide_eq_true_eq] at hlegal
    omega
  refine ⟨fun hvalid => ?_, ?_, s.valid_eq_false_iff a⟩
  · obtain ⟨x, hx⟩ := State.valid_imp_resolve hvalid
    exact ⟨x, hx, State.exists_of_resolve hrom hvalid hx⟩
  · rw [s.resolve_eq_none_iff, region_eq_unusable_iff]

/-- Settles O43: such an address is rejected. -/
theorem rejectedAccessHasNoEffect : Obligations.RejectedAccessHasNoEffect := by
  intro s a v prog h
  have hvalid : s.valid a = false := (s.valid_eq_false_iff a).2 h
  exact ⟨State.read8_rejected prog hvalid, State.write8_rejected v prog hvalid⟩

/-- Settles O46: the record equation of a write, its frame on cells, and what it does to the bank scalars and the
latch. -/
theorem writeChangesOnlyItsCell : Obligations.WriteChangesOnlyItsCell := by
  intro s a v p
  refine ⟨?_, ?_, fun hc => State.write8_banks_noController hc a v p, fun hboot => ?_⟩
  · rw [sameOutsideStorage, State.write8_eq]
  · intro x hoff h
    refine State.cell_write8_other hoff fun hvalid => ?_
    obtain ⟨hne, hdma⟩ := h hvalid
    exact ⟨hne, fun ha j hj hx => hdma ha ⟨j, hj, hx⟩⟩
  · rw [State.write8_bootDone, decide_eq_false hboot, Bool.and_false, Bool.false_and, Bool.or_false]

/-! #### The DMA copy -/

/-- The address of byte `i` of the source page (R76). -/
def dmaSource (v : Byte) (i : Nat) : Word := BitVec.ofNat 16 (v.toNat * 0x100 + i)

/-- The source of a byte is never another byte of the sprite table: a page of sprites is copied onto itself. -/
theorem State.resolve_dmaSource_ne (s : State) (v : Byte) {i j : Nat} (hi : i < 160) (hj : j < 160) (hij : j ≠ i) :
    s.resolve (dmaSource v j) ≠ some ⟨.oam, 0, i⟩ := by
  intro h
  have hrange := region_range (dmaSource v j)
  have hoff := State.resolve_off h
  have hnat : (dmaSource v j).toNat = v.toNat * 0x100 + j := by
    have := v.isLt
    rw [dmaSource, BitVec.toNat_ofNat, Nat.mod_eq_of_lt (by omega)]
  rw [State.region_of_resolve_oam h, hnat] at hrange hoff
  simp only [Region.first] at hrange hoff
  omega

/-- What the copy of `n` bytes from byte `i` on leaves in each byte of the sprite table. -/
theorem State.cell_dmaFrom {s : State} (hmap : fixedMap s) (v : Byte) {i n j : Nat} (hn : i + n ≤ 160) (hj : j < 160) :
    (s.dmaFrom v i n).cell ⟨.oam, 0, j⟩ =
      if i ≤ j ∧ j < i + n then s.read8 (dmaSource v j) false else s.cell ⟨.oam, 0, j⟩ := by
  induction n generalizing s i with
  | zero => rw [if_neg (by omega)]; rfl
  | succ n ih =>
    rw [State.dmaFrom, ih (s := s.setCell _ _) hmap (by omega)]
    by_cases hji : j = i
    · subst hji
      rw [if_neg (by omega), if_pos (by omega), State.cell_setCell_self]
      rfl
    · rw [State.read8_setCell_other hmap (by dsimp only; omega) (s.resolve_dmaSource_ne v (by omega) hj hji),
        State.cell_setCell_other _ _ (by dsimp only; omega) (by dsimp only; omega) (by simp [hji])]
      exact if_congr (by omega) rfl rfl

/-- What a register other than `DIV` and `LY` reads after a write of either flavour. -/
theorem RegisterCell.read_write_value {a : Word} {x : Loc} (h : RegisterCell a x) (hdiv : a ≠ Config.DIV)
    (hly : a ≠ Config.LY) (s : State) (v : Byte) (prog : Bool) : (s.write8 a v prog).read8 a false = v :=
  (h.read_write s v prog).trans (storedValue_of_ne hdiv hly v prog)

theorem registerCell_DMA : RegisterCell Config.DMA ⟨.io, 0, 0x46⟩ := registerCell_io (by decide)

/-- With no bank controller, a write to the DMA register is the copy and then the store of the byte (R74, R76). -/
theorem State.write8_DMA {s : State} (hc : s.params.controller = .noController) (v : Byte) (prog : Bool) :
    s.write8 Config.DMA v prog = (s.dmaCopy v).setCell ⟨.io, 0, 0x46⟩ v := by
  have hbefore : s.beforeStore Config.DMA v = s.dmaCopy v := by
    rw [State.beforeStore, State.bankIntercept_noController hc, State.dmaTrigger, if_pos rfl, State.bootLatch,
      if_neg (by simp)]
  rw [State.write8, registerCell_DMA.valid, if_neg (by simp), hbefore, State.store, registerCell_DMA.resolve,
    storedValue_of_ne (by decide) (by decide)]

/-- Settles O51: the copy leaves the source bytes in the sprite table, and the store is in another cell. -/
theorem dmaCopiesTheSourcePage : Obligations.DmaCopiesTheSourcePage := by
  intro s v p hmap
  refine ⟨fun i hi => ?_, registerCell_DMA.read_write_value (by decide) (by decide) s v p⟩
  rw [show (0xFF46 : Word) = Config.DMA from rfl, State.write8_DMA hmap.1,
    State.cell_setCell_other _ _ (by decide) (by dsimp only; omega) (by simp), State.dmaCopy,
    State.cell_dmaFrom hmap v (by decide) hi, if_pos (by simpa using hi)]
  rfl

/-! #### Regions and registers -/

theorem Region.limit_le (r : Region) : r.limit ≤ 0x10000 := by cases r <;> decide

/-- A region that shows one bank of a buffer shows the `k`-th byte of it at its `k`-th address. -/
theorem State.resolve_ofNat {s : State} {r : Region} {base k bank : Nat} {buf : Buffer} (hfirst : r.first = base)
    (hk : base + k < r.limit)
    (hshown : ∀ a, region a = r → s.resolve a = some ⟨buf, bank, a.toNat - base⟩) :
    s.resolve (BitVec.ofNat 16 (base + k)) = some ⟨buf, bank, k⟩ := by
  have hnat : (BitVec.ofNat 16 (base + k)).toNat = base + k := by
    rw [BitVec.toNat_ofNat, Nat.mod_eq_of_lt (lt_of_lt_of_le hk r.limit_le)]
  rw [hshown _ (region_eq (by omega) (by omega)), hnat, Nat.add_sub_cancel_left]

/-- Below the overlay's end and while the latch is clear the boot program hides the fixed ROM (R73). -/
theorem State.resolve_ROM0 (s : State) {a : Word} (h : region a = .ROM0) :
    s.resolve a =
      some (if a.toNat < s.params.bootSize ∧ s.bootDone = false then ⟨.bootrom, 0, a.toNat⟩ else ⟨.rom0, 0, a.toNat⟩) := by
  simp only [State.resolve, h]
  split <;> rfl

theorem State.resolve_ROMX (s : State) {a : Word} (h : region a = .ROMX) :
    s.resolve a = some ⟨.romx, s.banks.romBank % s.params.romBanks, a.toNat - 0x4000⟩ := by
  simp only [State.resolve, h]

theorem State.resolve_WRAM0 (s : State) {a : Word} (h : region a = .WRAM0) :
    s.resolve a = some ⟨.wram, 0, a.toNat - 0xC000⟩ := by
  simp only [State.resolve, h]

theorem State.resolve_WRAMX (s : State) {a : Word} (h : region a = .WRAMX) :
    s.resolve a = some ⟨.wram, s.wramSel, a.toNat - 0xD000⟩ := by
  simp only [State.resolve, h]

theorem State.resolve_ECHO0 (s : State) {a : Word} (h : region a = .ECHO0) :
    s.resolve a = some ⟨.wram, 0, a.toNat - 0xE000⟩ := by
  simp only [State.resolve, h]

theorem State.resolve_ECHOX (s : State) {a : Word} (h : region a = .ECHOX) :
    s.resolve a = some ⟨.wram, s.wramSel, a.toNat - 0xF000⟩ := by
  simp only [State.resolve, h]

/-- Settles O44: each clause is a region by its bounds, and what resolution gives in it. -/
theorem regionsShowTheirCells : Obligations.RegionsShowTheirCells := by
  intro s
  refine ⟨fun k hk => ?rom0, fun k hk => ?romx, fun k hk => ⟨?wram0, ?echo0⟩, fun k hk => ?wramx, fun k hk => ?echox,
    s.wramSel_range⟩
  case rom0 =>
    have hnat : (BitVec.ofNat 16 k).toNat = k := by rw [BitVec.toNat_ofNat, Nat.mod_eq_of_lt (by omega)]
    rw [s.resolve_ROM0 (region_eq (Nat.zero_le _) (hnat.symm ▸ hk)), hnat]
  case romx => exact State.resolve_ofNat rfl (Nat.add_lt_add_left hk _) fun a h => s.resolve_ROMX h
  case wram0 => exact State.resolve_ofNat rfl (Nat.add_lt_add_left hk _) fun a h => s.resolve_WRAM0 h
  case echo0 => exact State.resolve_ofNat rfl (Nat.add_lt_add_left hk _) fun a h => s.resolve_ECHO0 h
  case wramx => exact State.resolve_ofNat rfl (Nat.add_lt_add_left hk _) fun a h => s.resolve_WRAMX h
  case echox => exact State.resolve_ofNat rfl (Nat.add_lt_add_left hk _) fun a h => s.resolve_ECHOX h

/-- The program read of the joypad register is not a read of storage (R67). -/
theorem State.read8_JOYP_program (s : State) : s.read8 Config.JOYP true = s.poll := by
  rw [State.read8, registerCell_JOYP.valid, if_neg (by simp), if_pos ⟨rfl, rfl⟩]

/-- Settles O48: `poll()` reads the parameters and the step index, which every instruction keeps. -/
theorem joypadReadsPoll : Obligations.JoypadReadsPoll := by
  refine ⟨fun s v p => ⟨s.read8_JOYP_program, ?_, fun i t h => ?_⟩, fun s hdefault => ?_⟩
  · exact registerCell_JOYP.read_write_value (by decide) (by decide) s v p
  · have hkeeps : Keeps s t := .exec h
    rw [State.read8_JOYP_program, State.read8_JOYP_program, State.poll, hkeeps.params, hkeeps.index]
    rfl
  · rw [State.read8_JOYP_program, State.poll, hdefault]
    rfl

/-- Settles O49: both registers have a cell that nothing moves, and a program write stores zero there. -/
theorem dividerAndLineWritesStoreZero : Obligations.DividerAndLineWritesStoreZero := by
  intro s v a ha
  obtain ⟨x, hcell⟩ : ∃ x, RegisterCell a x := by
    rcases ha with rfl | rfl
    · exact ⟨_, registerCell_DIV⟩
    · exact ⟨_, registerCell_LY⟩
  refine ⟨?_, hcell.read_write s v false, fun p => State.write8_divAcc s a v p⟩
  exact (hcell.read_write s v true).trans (if_pos ⟨rfl, ha⟩)

/-- Settles O50: the latch after a write, at an address that is never rejected. -/
theorem bootRegisterSetsTheLatch : Obligations.BootRegisterSetsTheLatch := by
  intro s v p
  refine ⟨?_, registerCell_BOOT.read_write_value (by decide) (by decide) s v p⟩
  have hvalid : s.valid 0xFF50 = true := registerCell_BOOT.valid s
  rw [State.write8_bootDone, hvalid]
  simp

end Sys2Proof.Machine

/-! ### Family 30_encoding -/

namespace Sys2Proof.Laws

/-- Every row decodes back: the byte 0xCB alone is not well-formed, a 16-bit operand is made up again from its two
bytes, and any other row is what decoding its bytes computes to. -/
theorem roundTrip (i : Instr) : RoundTrip.Statement i := by
  cases i
  case prefixCB op2 => exact RoundTrip.prefixCB op2
  case ld_BC_nn | ld_DE_nn | ld_HL_nn | ld_SP_nn => exact RoundTrip.ofWord fun _ => rfl
  case ld_atNN_SP | ld_atNN_A | ld_A_atNN => exact RoundTrip.ofWord fun _ => rfl
  case jp | jp_NZ | jp_Z | jp_NC | jp_C => exact RoundTrip.ofWord fun _ => rfl
  case call | call_NZ | call_Z | call_NC | call_C => exact RoundTrip.ofWord fun _ => rfl
  all_goals exact fun _ _ => rfl

/-- Settles O57: the round trip of each row. -/
theorem decodeInvertsEncode : Obligations.DecodeInvertsEncode :=
  fun i rest hwf => roundTrip i hwf rest

/-- A property of every opcode byte: the row 0xCB, whose second byte is a field of its own (R131), and the 255 others. -/
theorem forall_opcode {motive : Byte → Prop} (extended : motive 0xCB)
    (below : ∀ n : Nat, n < 0xCB → motive (BitVec.ofNat 8 n))
    (above : ∀ n : Nat, 0xCB < n → n < 256 → motive (BitVec.ofNat 8 n)) (a : Byte) : motive a := by
  refine forall_byte (fun n hn => ?_) a
  rcases Nat.lt_trichotomy n 0xCB with h | rfl | h
  · exact below n h
  · exact extended
  · exact above n h hn

theorem decodeExtended_wellFormed : ∀ b : Byte, (decodeExtended b).wellFormed = true := by decide +kernel

theorem encode_decodeExtended : ∀ b : Byte, encode (decodeExtended b) = [0xCB, b] := by decide +kernel

theorem decodeAt_wellFormed (a b c : Byte) : (decodeAt a b c).wellFormed = true := by
  induction a using forall_opcode with
  | extended => exact decodeExtended_wellFormed b
  | below n _ => interval_cases n <;> exact rfl
  | above n _ _ => interval_cases n <;> exact rfl

/-- The bytes of what was decoded, before the two halves of a 16-bit operand are read off: a row of length 3 has its
operand as a word (R129), every other row the bytes themselves. -/
theorem encode_decodeAt_halves (a b c : Byte) : encode (decodeAt a b c) =
    if lengthOf a = 3 then [a, loByte (wordOf b c), hiByte (wordOf b c)] else [a, b, c].take (max 1 (lengthOf a)) := by
  induction a using forall_opcode with
  | extended => exact encode_decodeExtended b
  | below n _ => interval_cases n <;> exact rfl
  | above n _ _ => interval_cases n <;> exact rfl

/-- Encoding what was decoded gives the bytes of its length back; an illegal opcode is its one byte. -/
theorem encode_decodeAt (a b c : Byte) : encode (decodeAt a b c) = [a, b, c].take (max 1 (lengthOf a)) := by
  rw [encode_decodeAt_halves]
  split
  case isTrue h => simp [h]
  case isFalse => rfl

/-- Settles O58: the decoded instruction takes its bytes from the front (`encode_decodeAt`), and decoding leaves the
others. -/
theorem encodeInvertsDecode : Obligations.EncodeInvertsDecode := by
  intro a b c
  refine ⟨decodeAt a b c, _, decode_three a b c [], ?_, decodeAt_wellFormed a b c, rfl⟩
  rw [encode_decodeAt, List.take_append_drop]

/-- Settles O56: each word is a closed term that the decoder computes. -/
theorem wordsOfTheOpcodeMapsDecode : Obligations.WordsOfTheOpcodeMapsDecode := by
  unfold Obligations.WordsOfTheOpcodeMapsDecode
  decide

end Sys2Proof.Laws

/-! ### Family 40_load8 -/

namespace Sys2Proof.Laws

open Machine Safety

/-! #### The rows -/

/-- A row from its encoding: that its bytes decode back is the round trip of every well-formed instruction. -/
theorem described_of_encode {i : Instr} {bytes : List Byte} {cycles : Nat} (hwf : i.wellFormed = true)
    (hencode : encode i = bytes) (hlength : i.length = bytes.length) (hcycles : i.baseCycles = cycles) :
    described i bytes cycles := by
  have hdecode : decode (encode i ++ []) = .ok (i, []) := decodeInvertsEncode i [] hwf
  rw [List.append_nil, hencode] at hdecode
  exact ⟨hencode, hdecode, hlength, hcycles⟩

theorem described_ld_reg (dst r : Reg8) :
    described (.ld (.reg dst) (.reg r)) [op8 (0x40 + 8 * regCode dst + regCode r)] 4 := by
  cases dst <;> cases r <;> exact described_of_encode rfl rfl rfl rfl

theorem described_ldImm_reg (n : Byte) (dst : Reg8) :
    described (.ldImm n (.reg dst)) [op8 (0x06 + 8 * regCode dst), n] 8 := by
  cases dst <;> exact described_of_encode rfl rfl rfl rfl

theorem described_ld_fromHL (dst : Reg8) : described (.ld (.reg dst) .atHL) [op8 (0x46 + 8 * regCode dst)] 8 := by
  cases dst <;> exact described_of_encode rfl rfl rfl rfl

theorem described_ld_toHL (r : Reg8) : described (.ld .atHL (.reg r)) [op8 (0x70 + regCode r)] 8 := by
  cases r <;> exact described_of_encode rfl rfl rfl rfl

/-! #### One register written -/

theorem writesRegister_setReg (s : State) (r : Reg8) (v : Byte) : writesRegister s (s.setReg r v) r v :=
  ⟨s.reg_setReg_self r v, fun _ hq => s.reg_setReg_other hq v, s.setReg_frame r v⟩

/-- `LD A` from an address is a write of `A` (R159, R161, R163). -/
theorem writesRegister_loadA (s : State) (addr : Word) : writesRegister s (s.loadA addr) .a (s.read8 addr true) :=
  writesRegister_setReg s .a (s.read8 addr true)

/-- Settles O1: each form is one `setReg`, of the source register, the immediate or the byte at `HL`. -/
theorem loadsIntoARegisterWriteOnlyIt : Obligations.LoadsIntoARegisterWriteOnlyIt := by
  refine ⟨fun dst r s => ?register, fun dst n s => ?immediate, fun dst s => ?atHL⟩
  case register => exact ⟨described_ld_reg dst r, _, exec_ldFrom s dst (.reg r), writesRegister_setReg s dst _⟩
  case immediate => exact ⟨described_ldImm_reg n dst, _, exec_ldImm s n (.reg dst), writesRegister_setReg s dst n⟩
  case atHL => exact ⟨described_ld_fromHL dst, _, exec_ldFrom s dst .atHL, writesRegister_setReg s dst _⟩

/-- Settles O2: setting the operand `(HL)` is the program write at `HL`. -/
theorem storesAtHLWriteTheByteAtHL : Obligations.StoresAtHLWriteTheByteAtHL :=
  ⟨fun r s => ⟨described_ld_toHL r, exec_ldStore s r⟩,
    fun n s => ⟨described_of_encode rfl rfl rfl rfl, exec_ldImm s n .atHL⟩⟩

/-! #### The indirect forms -/

/-- A load of `A` at `HL`, then any new value of `HL` (R167, R168). -/
theorem loadA_setHL (s : State) (v : Word) :
    ((s.loadA s.hl).setHL v).a = s.read8 s.hl true ∧ ((s.loadA s.hl).setHL v).hl = v ∧
      { (s.loadA s.hl).setHL v with a := s.a, h := s.h, l := s.l } = s :=
  ⟨rfl, State.hl_setHL _ v, rfl⟩

/-- Settles O3: an indirect load is the load of `A`, then, in the forms `HL+` and `HL-`, a new value of `HL`. -/
theorem indirectLoadsOfA : Obligations.IndirectLoadsOfA := by
  refine ⟨fun s => ?bc, fun s => ?de, fun s => ?hlInc, fun s => ?hlDec⟩ <;>
    refine ⟨described_of_encode rfl rfl rfl rfl, _, exec_loadA s _, ?_⟩
  case bc => exact writesRegister_loadA s s.bc
  case de => exact writesRegister_loadA s s.de
  case hlInc => exact loadA_setHL s (s.hl + 1)
  case hlDec => exact loadA_setHL s (s.hl - 1)

/-- A program write, then `HL` moved: the write keeps `HL`, so it moves from where it was, and with `HL` put back the
state is that of the write alone (R165, R166). -/
theorem write8_moveHL (s : State) (a : Word) (b : Byte) (move : Word → Word) :
    ((s.write8 a b true).setHL (move (s.write8 a b true).hl)).hl = move s.hl ∧
      { (s.write8 a b true).setHL (move (s.write8 a b true).hl) with h := s.h, l := s.l } = s.write8 a b true := by
  constructor
  · rw [State.hl_setHL, State.write8_hl]
  · rw [← s.write8_h a b true, ← s.write8_l a b true]
    rfl

/-- Settles O4: an indirect store is the program write of `A`, then, in the forms `HL+` and `HL-`, a move of `HL`. -/
theorem indirectStoresOfA : Obligations.IndirectStoresOfA := by
  refine ⟨fun s => ?bc, fun s => ?de, fun s => ?hlInc, fun s => ?hlDec⟩ <;>
    refine ⟨described_of_encode rfl rfl rfl rfl, ?_⟩
  case bc => exact exec_storeA s .bc
  case de => exact exec_storeA s .de
  case hlInc => exact ⟨_, exec_storeA s .hlInc, write8_moveHL s s.hl s.a (· + 1)⟩
  case hlDec => exact ⟨_, exec_storeA s .hlDec, write8_moveHL s s.hl s.a (· - 1)⟩

/-! #### The absolute and the high-page forms -/

section
variable (s : State)

theorem exec_ld_A_atNN (nn : Word) : exec (.ld_A_atNN nn) s = .next (s.loadA nn) := rfl

theorem exec_ld_atNN_A (nn : Word) : exec (.ld_atNN_A nn) s = .next (s.storeA nn) := rfl

theorem exec_ldh_A_atN (n : Byte) : exec (.ldh_A_atN n) s = .next (s.loadA (highPage n)) := rfl

theorem exec_ldh_atN_A (n : Byte) : exec (.ldh_atN_A n) s = .next (s.storeA (highPage n)) := rfl

theorem exec_ldh_A_atC : exec .ldh_A_atC s = .next (s.loadA (highPage s.c)) := rfl

theorem exec_ldh_atC_A : exec .ldh_atC_A s = .next (s.storeA (highPage s.c)) := rfl

end

/-- Settles O5: each form is the load or the store of `A` at its address, that of the `LDH` forms by `highPage_eq`. -/
theorem absoluteAndHighPageAccess : Obligations.AbsoluteAndHighPageAccess := by
  refine ⟨fun nn s => ?loadNN, fun nn s => ?storeNN, fun n s => ?loadN, fun n s => ?storeN, fun s => ?loadC,
    fun s => ?storeC⟩ <;>
    refine ⟨described_of_encode rfl rfl rfl rfl, ?_⟩
  case loadNN => exact ⟨_, exec_ld_A_atNN s nn, writesRegister_loadA s nn⟩
  case storeNN => exact exec_ld_atNN_A s nn
  all_goals rw [← highPage_eq]
  case loadN => exact ⟨_, exec_ldh_A_atN s n, writesRegister_loadA s (highPage n)⟩
  case storeN => exact exec_ldh_atN_A s n
  case loadC => exact ⟨_, exec_ldh_A_atC s, writesRegister_loadA s (highPage s.c)⟩
  case storeC => exact exec_ldh_atC_A s

end Sys2Proof.Laws

/-! ### Family 41_load16_stack -/

namespace Sys2Proof.Laws

open Machine Safety

/-! #### The rows of the families -/

theorem described_ldPair (nn : Word) (p : Pair) :
    described (.ldPair nn p) [op8 (0x01 + 16 * pairCode p), nn.extractLsb' 0 8, nn.extractLsb' 8 8] 12 := by
  cases p <;> exact described_of_encode rfl rfl rfl rfl

theorem described_push (p : StackPair) : described (.push p) [op8 (0xC5 + 16 * stackPairCode p)] 16 := by
  cases p <;> exact described_of_encode rfl rfl rfl rfl

theorem described_pop (p : StackPair) : described (.pop p) [op8 (0xC1 + 16 * stackPairCode p)] 12 := by
  cases p <;> exact described_of_encode rfl rfl rfl rfl

/-! #### Pairs and `SP` -/

/-- Every pair is made of registers other than `A` and `F`, or is `SP` (R180). -/
theorem writesPair_setPair (s : State) (p : Pair) (v : Word) : writesPair s (s.setPair p v) p v := by
  refine ⟨s.pair_setPair_self p v, fun _ hq => s.pair_setPair_other hq v, ?a, ?frame⟩
  case a => cases p <;> rfl
  case frame => cases p <;> rfl

theorem exec_ld_SP_HL (s : State) : exec .ld_SP_HL s = .next { s with sp := s.hl } := rfl

/-- Settles O6: `LD rr,nn` is one `setPair`, and `LD SP,HL` sets `SP` alone. -/
theorem pairLoadsWriteOnlyThePair : Obligations.PairLoadsWriteOnlyThePair :=
  ⟨fun nn p s => ⟨described_ldPair nn p, _, exec_ldPair s nn p, writesPair_setPair s p nn⟩,
    fun s => ⟨described_of_encode rfl rfl rfl rfl, exec_ld_SP_HL s⟩⟩

theorem exec_ld_atNN_SP (nn : Word) (s : State) : exec (.ld_atNN_SP nn) s = .next (s.write16 nn s.sp true) := rfl

/-- Settles O7: the store is `write16`, which is the write of the low byte, then of the high byte (R82). -/
theorem storeOfSPWritesLowByteFirst : Obligations.StoreOfSPWritesLowByteFirst :=
  fun nn s => ⟨described_of_encode rfl rfl rfl rfl, exec_ld_atNN_SP nn s⟩

theorem exec_ld_HL_SPe (e : Byte) (s : State) : exec (.ld_HL_SPe e) s = .next (s.loadHLSigned e) := rfl

theorem flagsAre_setFlags (s : State) (x : Flags) : flagsAre (s.setFlags x) x.z x.n x.h x.c :=
  ⟨s.zFlag_setFlags x, s.nFlag_setFlags x, s.hFlag_setFlags x, s.cFlag_setFlags x, x.pack_low⟩

theorem hl_loadHLSigned (s : State) (e : Byte) : (s.loadHLSigned e).hl = s.sp + sext16 e := by
  rw [State.loadHLSigned, State.setFlags_hl, State.hl_setHL, addSigned16]

/-- Settles O8: the sum is that of `SP` and the displacement as an integer (`toNat_add_sext16`), the flags are those of
`addSigned16`. -/
theorem loadHLFromSPPlusDisplacement : Obligations.LoadHLFromSPPlusDisplacement := by
  intro e s
  refine ⟨described_of_encode rfl rfl rfl rfl, _, exec_ld_HL_SPe e s, ?sum, flagsAre_setFlags _ _, rfl⟩
  case sum => rw [hl_loadHLSigned, toNat_add_sext16]

/-! #### The stack -/

theorem sp_push16 (s : State) (v : Word) : (s.push16 v).sp = s.sp - 2 := by
  rw [State.push16_eq]

/-- `Push16` as its two program writes: the first keeps `SP`, so the second is at one address lower (R96). -/
theorem push16_eq_writes (s : State) (v : Word) :
    s.push16 v = ({ ({ s with sp := s.sp - 1 }.write8 (s.sp - 1) (hiByte v) true) with sp := s.sp - 2 }).write8
      (s.sp - 2) (loByte v) true := by
  have hsp : (s.push8 (hiByte v)).sp - 1 = s.sp - 2 := by
    rw [State.push8, State.memWrite, State.write8_sp]
    bv_omega
  rw [State.push16, State.push8, hsp]
  rfl

/-- Settles O9: `PUSH` is `Push16` of the pair. -/
theorem pushWritesHighByteThenLowByte : Obligations.PushWritesHighByteThenLowByte :=
  fun p s => ⟨described_push p, _, exec_push s p, sp_push16 s _, push16_eq_writes s _⟩

theorem sp_popPair (s : State) (p : StackPair) : (s.popPair p).sp = s.sp + 2 := by
  cases p <;> rfl

/-- A pop into a pair other than `AF` changes `SP` and the registers of such pairs (R185). -/
theorem popPair_frame (s : State) {p : StackPair} (hp : p ≠ .af) :
    { s.popPair p with sp := s.sp, b := s.b, c := s.c, d := s.d, e := s.e, h := s.h, l := s.l } = s := by
  cases p
  case af => exact absurd rfl hp
  all_goals rfl

/-- The other pairs are those of the state in which only `SP` has moved. -/
theorem stackPair_popPair_other (s : State) {p q : StackPair} (hq : q ≠ p) :
    (s.popPair p).stackPair q = s.stackPair q := by
  rw [State.popPair, State.stackPair_setStackPair_other _ hq]
  cases q <;> rfl

/-- Settles O10: `POP` moves `SP` up by two, then puts the popped value in the pair; `AF` takes its bytes, that of `F`
without the low four bits. -/
theorem popReadsLowByteThenHighByte : Obligations.PopReadsLowByteThenHighByte := by
  refine ⟨fun p s hp => ?pair, fun s => ?af⟩
  case pair =>
    exact ⟨described_pop p, _, exec_pop s p, sp_popPair s p, State.stackPair_setStackPair_self _ hp _,
      fun _ hq => stackPair_popPair_other s hq, popPair_frame s hp⟩
  case af =>
    refine ⟨described_pop .af, _, exec_pop s .af, sp_popPair s .af, hiByte_wordOf _ _, ?_, rfl⟩
    exact congrArg (· &&& 0xF0) (loByte_wordOf (s.read8 s.sp true) _)

end Sys2Proof.Laws

/-! ### Family 42_alu8 -/

namespace Sys2Proof.Laws

open Machine Safety

/-! #### Flags and memory of a state after an update -/

/-- With `F` put back, a flag write leaves what it was applied to. -/
theorem setFlags_restoreF {s t : State} (hf : t.f = s.f) (x : Flags) : { t.setFlags x with f := s.f } = t := by
  rw [← hf]
  rfl

/-- What `onlyStoreChanges` says of a state rests on its storage alone, so registers, flags and `HL` may have moved
beside the write. -/
theorem onlyStoreChanges_of_mem {s t : State} {a : Word} {v : Byte} (hmem : t.mem = (s.write8 a v true).mem) :
    onlyStoreChanges s s t a v := by
  intro x hoff hother
  have hcell : t.cell x = (s.write8 a v true).cell x := congrArg (Memory.read · x.key) hmem
  have hframe : onlyStoreChanges s s (s.write8 a v true) a v := (writeChangesOnlyItsCell s a v true).2.1
  exact hcell.trans (hframe x hoff hother)

/-- The frame of an instruction, from the state it leads to. -/
theorem onlyStoreChanges_of_exec {i : Instr} {s t u : State} {a : Word} {v : Byte} (hexec : exec i s = .next u)
    (hmem : u.mem = (s.write8 a v true).mem) (h : exec i s = .next t) : onlyStoreChanges s s t a v := by
  rw [hexec] at h
  cases h
  exact onlyStoreChanges_of_mem hmem

/-- The move of `HL` after an indirect store is not seen in storage. -/
theorem mem_storeIndirect (s : State) (p : Indirect) :
    (s.storeIndirect p).mem = (s.write8 (s.indirect p) s.a true).mem := by
  cases p <;> rfl

/-- Settles O47: each form's state has the storage of one program write at the form's address, whose frame is that of
every write (`writeChangesOnlyItsCell`). -/
theorem storingFormsChangeOnlyTheirCell : Obligations.StoringFormsChangeOnlyTheirCell := by
  intro s t n nn r b op p
  refine ⟨?ldStore, ?ldImm, ?storeA, ?storeNN, ?storeN, ?storeC, ?inc, ?dec, ?rot, ?res, ?set⟩
  case ldStore => exact onlyStoreChanges_of_exec (exec_ldStore s r) rfl
  case ldImm => exact onlyStoreChanges_of_exec (exec_ldImm s n .atHL) rfl
  case storeA => exact onlyStoreChanges_of_exec (exec_storeA s p) (mem_storeIndirect s p)
  case storeNN => exact onlyStoreChanges_of_exec (exec_ld_atNN_A s nn) rfl
  case storeN => exact onlyStoreChanges_of_exec (exec_ldh_atN_A s n) rfl
  case storeC => exact onlyStoreChanges_of_exec (exec_ldh_atC_A s) rfl
  case inc => exact onlyStoreChanges_of_exec (exec_inc s .atHL) rfl
  case dec => exact onlyStoreChanges_of_exec (exec_dec s .atHL) rfl
  case rot => exact onlyStoreChanges_of_exec (exec_rot s op .atHL) rfl
  case res => exact onlyStoreChanges_of_exec (exec_res s b .atHL) rfl
  case set => exact onlyStoreChanges_of_exec (exec_set s b .atHL) rfl

/-! #### The operand forms of an ALU operation -/

theorem described_aluForm (op : AluOp) (x : AluForm) : described (x.instr op) (x.bytes op) x.cycles := by
  rcases x with (r | _) | n
  case operand.reg => cases op <;> cases r <;> exact described_of_encode rfl rfl rfl rfl
  case operand.atHL => cases op <;> exact described_of_encode rfl rfl rfl rfl
  case immediate => cases op <;> exact described_of_encode rfl rfl rfl rfl

theorem exec_aluForm (op : AluOp) (x : AluForm) (s : State) : exec (x.instr op) s = .next (s.alu op (x.value s)) := by
  rcases x with (r | _) | n
  case operand.reg => exact exec_alu s op (.reg r)
  case operand.atHL => exact exec_alu s op .atHL
  case immediate => exact exec_aluImm s n op

theorem flagsAre_alu (s : State) (op : AluOp) (v : Byte) :
    flagsAre (s.alu op v) (aluResult op s.a v s.cFlag).2.z (aluResult op s.a v s.cFlag).2.n
      (aluResult op s.a v s.cFlag).2.h (aluResult op s.a v s.cFlag).2.c :=
  flagsAre_setFlags _ _

/-! #### Sums and differences -/

theorem toNat_add8 (a v : Byte) (cin : Bool) : (add8 a v cin).1.toNat = (a.toNat + v.toNat + cin.toNat) % 256 :=
  BitVec.toNat_ofNat _ _

theorem toNat_sub8 (a v : Byte) (cin : Bool) :
    ((sub8 a v cin).1.toNat : Int) = ((a.toNat : Int) - v.toNat - cin.toNat) % 256 := by
  rw [sub8, BitVec.toNat_ofInt]
  exact Int.toNat_of_nonneg (Int.emod_nonneg _ (by decide))

/-- Without a borrow in, the result is zero exactly for equal operands (R213). -/
theorem sub8_z (a v : Byte) : (sub8 a v false).2.z = decide (a = v) := by
  have hsub := toNat_sub8 a v false
  rw [Bool.toNat_false, Nat.cast_zero, sub_zero] at hsub
  have hz : (sub8 a v false).1 = 0 ↔ a = v := by bv_omega
  exact decide_eq_decide.2 hz

/-- Settles O12: both forms are `add8`, of no carry in or of the carry flag. -/
theorem addAndAddWithCarry : Obligations.AddAndAddWithCarry := by
  refine fun x s => ⟨?add, ?adc⟩
  case add =>
    exact ⟨described_aluForm .add x, _, exec_aluForm .add x s, toNat_add8 s.a (x.value s) false,
      flagsAre_alu s .add (x.value s), rfl⟩
  case adc =>
    exact ⟨described_aluForm .adc x, _, exec_aluForm .adc x s, toNat_add8 s.a (x.value s) s.cFlag,
      flagsAre_alu s .adc (x.value s), rfl⟩

/-- Settles O13: the three forms are `sub8`, of no borrow in or of the carry flag; `CP` keeps the flags of the
difference and writes no `A`. -/
theorem subtractAndCompare : Obligations.SubtractAndCompare := by
  refine fun x s => ⟨?sub, ?sbc, ?cp⟩
  case sub =>
    refine ⟨described_aluForm .sub x, _, exec_aluForm .sub x s, ?_, flagsAre_alu s .sub (x.value s), rfl⟩
    exact (toNat_sub8 s.a (x.value s) false).trans (by rw [Bool.toNat_false, Nat.cast_zero, sub_zero])
  case sbc =>
    exact ⟨described_aluForm .sbc x, _, exec_aluForm .sbc x s, toNat_sub8 s.a (x.value s) s.cFlag,
      flagsAre_alu s .sbc (x.value s), rfl⟩
  case cp =>
    refine ⟨described_aluForm .cp x, _, exec_aluForm .cp x s, ?_, rfl⟩
    rw [← sub8_z]
    exact flagsAre_alu s .cp (x.value s)

/-- Settles O14: the result is the bitwise operation on the two bytes. -/
theorem andXorOr : Obligations.AndXorOr := by
  refine fun x s => ⟨?and, ?xor, ?or⟩
  case and =>
    exact ⟨described_aluForm .and x, _, exec_aluForm .and x s, fun _ => BitVec.getLsbD_and,
      flagsAre_alu s .and (x.value s), rfl⟩
  case xor =>
    exact ⟨described_aluForm .xor x, _, exec_aluForm .xor x s, fun _ => BitVec.getLsbD_xor,
      flagsAre_alu s .xor (x.value s), rfl⟩
  case or =>
    exact ⟨described_aluForm .or x, _, exec_aluForm .or x s, fun _ => BitVec.getLsbD_or,
      flagsAre_alu s .or (x.value s), rfl⟩

/-! #### Increments and decrements -/

theorem described_inc_reg (r : Reg8) : described (.inc (.reg r)) [op8 (0x04 + 8 * regCode r)] 4 := by
  cases r <;> exact described_of_encode rfl rfl rfl rfl

theorem described_dec_reg (r : Reg8) : described (.dec (.reg r)) [op8 (0x05 + 8 * regCode r)] 4 := by
  cases r <;> exact described_of_encode rfl rfl rfl rfl

/-- One register and the flags written: apart from `F`, the register alone (R216, R218). -/
theorem writesRegister_setReg_setFlags (s : State) (r : Reg8) (v : Byte) (x : Flags) :
    writesRegister s { (s.setReg r v).setFlags x with f := s.f } r v := by
  rw [setFlags_restoreF (s.setReg_f r v)]
  exact writesRegister_setReg s r v

theorem reg_setReg_setFlags (s : State) (r : Reg8) (v : Byte) (x : Flags) :
    ((s.setReg r v).setFlags x).reg r = v :=
  (State.reg_setFlags _ x r).trans (s.reg_setReg_self r v)

/-- Settles O15: each form is one `setReg` and one flag write, of the flags of the byte before it. -/
theorem incrementAndDecrementRegister : Obligations.IncrementAndDecrementRegister := by
  refine fun r s => ⟨⟨described_inc_reg r, _, exec_inc s (.reg r), writesRegister_setReg_setFlags s r _ _, ?inc⟩,
    ⟨described_dec_reg r, _, exec_dec s (.reg r), writesRegister_setReg_setFlags s r _ _, ?dec⟩⟩
  case inc =>
    rw [State.increment, State.setOperand, reg_setReg_setFlags]
    exact flagsAre_setFlags _ (inc8 (s.reg r) s.cFlag).2
  case dec =>
    rw [State.decrement, State.setOperand, reg_setReg_setFlags]
    exact flagsAre_setFlags _ (dec8 (s.reg r) s.cFlag).2

/-- Settles O16: each form is one program write at `HL`, which keeps `F`, and one flag write. -/
theorem incrementAndDecrementMemory : Obligations.IncrementAndDecrementMemory := by
  refine fun s => ⟨?inc, ?dec⟩
  case inc =>
    exact ⟨described_of_encode rfl rfl rfl rfl, _, exec_inc s .atHL, setFlags_restoreF (s.write8_f _ _ _) _,
      flagsAre_setFlags _ (inc8 (s.read8 s.hl true) s.cFlag).2⟩
  case dec =>
    exact ⟨described_of_encode rfl rfl rfl rfl, _, exec_dec s .atHL, setFlags_restoreF (s.write8_f _ _ _) _,
      flagsAre_setFlags _ (dec8 (s.read8 s.hl true) s.cFlag).2⟩

/-! #### `DAA`, `CPL`, `SCF`, `CCF` -/

section
variable (s : State)

theorem exec_daa : exec .daa s = .next s.decimalAdjust := rfl

theorem exec_cpl : exec .cpl s = .next ({ s with a := ~~~s.a }.setFlags { s.flags with n := true, h := true }) := rfl

theorem exec_scf : exec .scf s = .next (s.setFlags { s.flags with n := false, h := false, c := true }) := rfl

theorem exec_ccf : exec .ccf s = .next (s.setFlags { s.flags with n := false, h := false, c := !s.cFlag }) := rfl

end

/-- `A` after `DAA` with N clear: two conditional sums, whose conditions are of `A` as it was (R220). -/
theorem toNat_daa8_add {a : Byte} {x : Flags} (hn : x.n = false) :
    (daa8 a x).1.toNat = (a.toNat + (if x.c = true ∨ a.toNat > 0x99 then 0x60 else 0)
      + (if x.h = true ∨ a.toNat % 16 > 9 then 0x06 else 0)) % 256 := by
  simp only [daa8, hn, Bool.false_eq_true, if_false, decide_eq_true_eq]
  split <;> split <;> bv_omega

/-- `A` after `DAA` with N set: two conditional differences (R220). -/
theorem toNat_daa8_sub {a : Byte} {x : Flags} (hn : x.n = true) :
    ((daa8 a x).1.toNat : Int) = ((a.toNat : Int) - (if x.c then 0x60 else 0) - (if x.h then 0x06 else 0)) % 256 := by
  simp only [daa8, hn, if_true]
  split <;> split <;> bv_omega

/-- The flags of `DAA`: those of `daa8`, in which C is the first condition with N clear and is kept with N set. -/
theorem flagsAre_decimalAdjust (s : State) :
    flagsAre s.decimalAdjust (decide (s.decimalAdjust.a = 0)) s.nFlag false
      (if s.nFlag then s.cFlag else decide (s.cFlag = true ∨ s.a.toNat > 0x99)) :=
  flagsAre_setFlags _ (daa8 s.a s.flags).2

/-- Settles O17: the two modes are the two values of N. -/
theorem decimalAdjust : Obligations.DecimalAdjust := by
  intro s
  have hflags := flagsAre_decimalAdjust s
  refine ⟨described_of_encode rfl rfl rfl rfl, _, exec_daa s, fun hn => ⟨?sumOfA, ?sumFlags⟩,
    fun hn => ⟨?differenceOfA, ?differenceFlags⟩, rfl⟩
  case sumOfA => exact toNat_daa8_add (x := s.flags) hn
  case sumFlags => rwa [hn, if_neg Bool.false_ne_true] at hflags
  case differenceOfA => exact toNat_daa8_sub (x := s.flags) hn
  case differenceFlags => rwa [hn, if_pos rfl] at hflags

/-- Settles O18: one flag write each, of the flags as they stand but for those named; `CPL` also complements `A`. -/
theorem complementAndCarryFlagInstructions : Obligations.ComplementAndCarryFlagInstructions := by
  refine fun s => ⟨?cpl, ?scf, ?ccf⟩
  case cpl =>
    exact ⟨described_of_encode rfl rfl rfl rfl, _, exec_cpl s, BitVec.toNat_not, flagsAre_setFlags _ _, rfl⟩
  case scf => exact ⟨described_of_encode rfl rfl rfl rfl, _, exec_scf s, flagsAre_setFlags _ _, rfl⟩
  case ccf => exact ⟨described_of_encode rfl rfl rfl rfl, _, exec_ccf s, flagsAre_setFlags _ _, rfl⟩

end Sys2Proof.Laws

/-! ### Family 43_alu16 -/

namespace Sys2Proof.Laws

open Machine Safety

/-! #### The rows of the pairs -/

theorem described_addHL (p : Pair) : described (.addHL p) [op8 (0x09 + 16 * pairCode p)] 8 := by
  cases p <;> exact described_of_encode rfl rfl rfl rfl

theorem described_incPair (p : Pair) : described (.incPair p) [op8 (0x03 + 16 * pairCode p)] 8 := by
  cases p <;> exact described_of_encode rfl rfl rfl rfl

theorem described_decPair (p : Pair) : described (.decPair p) [op8 (0x0B + 16 * pairCode p)] 8 := by
  cases p <;> exact described_of_encode rfl rfl rfl rfl

/-! #### Sums and steps of one -/

theorem hl_addToHL (s : State) (p : Pair) : (s.addToHL p).hl = s.hl + s.pair p := by
  rw [State.addToHL, State.setFlags_hl, State.hl_setHL, addHL16]

theorem flagsAre_addToHL (s : State) (p : Pair) :
    flagsAre (s.addToHL p) s.zFlag false (decide (s.hl.toNat % 0x1000 + (s.pair p).toNat % 0x1000 > 0xFFF))
      (decide (s.hl.toNat + (s.pair p).toNat > 0xFFFF)) :=
  flagsAre_setFlags _ (addHL16 s.hl (s.pair p) s.zFlag).2

/-- Settles O19: the sum is that of `HL` and the pair as they stood (`HL` itself too), the flags are those of
`addHL16`. -/
theorem addPairToHL : Obligations.AddPairToHL := by
  intro p s
  refine ⟨described_addHL p, _, exec_addHL s p, ?sum, flagsAre_addToHL s p, rfl⟩
  case sum => rw [hl_addToHL, BitVec.toNat_add]

/-- Settles O20: each form is one `setPair`, which writes no flag and no storage. -/
theorem incrementAndDecrementPair : Obligations.IncrementAndDecrementPair :=
  fun p s => ⟨⟨described_incPair p, _, exec_incPair s p, writesPair_setPair s p (s.pair p + 1)⟩,
    ⟨described_decPair p, _, exec_decPair s p, writesPair_setPair s p (s.pair p - 1)⟩⟩

theorem exec_add_SP_e (e : Byte) (s : State) : exec (.add_SP_e e) s = .next (s.addToSP e) := rfl

/-- Settles O21: as for `LD HL,SP+e` (O8), the sum is that of integers (`toNat_add_sext16`) and the flags are those of
`addSigned16`. -/
theorem addDisplacementToSP : Obligations.AddDisplacementToSP := fun e s =>
  ⟨described_of_encode rfl rfl rfl rfl, _, exec_add_SP_e e s, toNat_add_sext16 s.sp e,
    flagsAre_setFlags _ (addSigned16 s.sp e).2, rfl⟩

end Sys2Proof.Laws

/-! ### Family 44_rotate_shift_bit -/

namespace Sys2Proof.Laws

open Machine Safety

/-! #### The rows -/

theorem described_rot_reg (op : RotOp) (r : Reg8) :
    described (.rot op (.reg r)) [0xCB, op8 (8 * rotCode op + regCode r)] 8 := by
  cases op <;> cases r <;> exact described_of_encode rfl rfl rfl rfl

theorem described_rot_atHL (op : RotOp) : described (.rot op .atHL) [0xCB, op8 (8 * rotCode op + 6)] 16 := by
  cases op <;> exact described_of_encode rfl rfl rfl rfl

theorem described_bit_reg (b : Idx3) (r : Reg8) :
    described (.bit b (.reg r)) [0xCB, op8 (0x40 + 8 * b.val + regCode r)] 8 := by
  cases b <;> cases r <;> exact described_of_encode rfl rfl rfl rfl

theorem described_bit_atHL (b : Idx3) : described (.bit b .atHL) [0xCB, op8 (0x46 + 8 * b.val)] 12 := by
  cases b <;> exact described_of_encode rfl rfl rfl rfl

theorem described_res_reg (b : Idx3) (r : Reg8) :
    described (.res b (.reg r)) [0xCB, op8 (0x80 + 8 * b.val + regCode r)] 8 := by
  cases b <;> cases r <;> exact described_of_encode rfl rfl rfl rfl

theorem described_res_atHL (b : Idx3) : described (.res b .atHL) [0xCB, op8 (0x86 + 8 * b.val)] 16 := by
  cases b <;> exact described_of_encode rfl rfl rfl rfl

theorem described_set_reg (b : Idx3) (r : Reg8) :
    described (.set b (.reg r)) [0xCB, op8 (0xC0 + 8 * b.val + regCode r)] 8 := by
  cases b <;> cases r <;> exact described_of_encode rfl rfl rfl rfl

theorem described_set_atHL (b : Idx3) : described (.set b .atHL) [0xCB, op8 (0xC6 + 8 * b.val)] 16 := by
  cases b <;> exact described_of_encode rfl rfl rfl rfl

/-! #### The table of R244, bit by bit -/

/-- One position to the left, with `x` moved into bit 0. -/
theorem getLsbD_shiftLeft_or (v : Byte) (x : Bool) {i : Nat} (hi : i < 8) :
    (v <<< 1 ||| (if x then 0x01 else 0)).getLsbD i = if i = 0 then x else v.getLsbD (i - 1) := by
  have hin : (if x then 0x01 else 0 : Byte).getLsbD i = (decide (i = 0) && x) := by
    cases x <;> simp [BitVec.getLsbD_one]
  rw [BitVec.getLsbD_or, BitVec.getLsbD_shiftLeft, hin]
  by_cases h0 : i = 0
  · simp [h0]
  · simp [h0, hi]

/-- One position to the right, with `x` moved into bit 7. -/
theorem getLsbD_ushiftRight_or (v : Byte) (x : Bool) (i : Nat) :
    (v >>> 1 ||| (if x then 0x80 else 0)).getLsbD i = if i = 7 then x else v.getLsbD (i + 1) := by
  have hin : (if x then 0x80 else 0 : Byte).getLsbD i = (decide (i = 7) && x) := by
    rw [show (0x80 : Byte) = BitVec.twoPow 8 7 from rfl]
    cases x <;> simp [BitVec.getLsbD_twoPow, eq_comm]
  rw [BitVec.getLsbD_or, BitVec.getLsbD_ushiftRight, hin, Nat.add_comm]
  by_cases h7 : i = 7
  · simp [h7]
  · simp [h7]

theorem getLsbD_swap (v : Byte) {i : Nat} (hi : i < 8) :
    (v <<< 4 ||| v >>> 4).getLsbD i = v.getLsbD ((i + 4) % 8) := by
  rw [BitVec.getLsbD_or, BitVec.getLsbD_shiftLeft, BitVec.getLsbD_ushiftRight]
  by_cases hlow : i < 4
  · simp [hlow, Nat.mod_eq_of_lt (show i + 4 < 8 by omega), Nat.add_comm]
  · have hmod : (i + 4) % 8 = i - 4 := by omega
    have hout : v.getLsbD (4 + i) = false := BitVec.getLsbD_of_ge v (4 + i) (by omega)
    simp [hlow, hi, hmod, hout]

/-- `SLA` is `RL` with the carry in clear. -/
theorem shift8_sla (v : Byte) (cy : Bool) : shift8 .sla v cy = shift8 .rl v false := by simp [shift8]

/-- `SRL` is `RR` with the carry in clear. -/
theorem shift8_srl (v : Byte) (cy : Bool) : shift8 .srl v cy = shift8 .rr v false := by simp [shift8]

/-- `shift8` is the table of R244: all but `SWAP` move by one position, and differ in the bit moved in. -/
theorem isShift_shift8 (op : RotOp) (v : Byte) (cy : Bool) :
    isShift op v cy (shift8 op v cy).1 (shift8 op v cy).2 := by
  refine ⟨fun i hi => ?bits, by cases op <;> rfl⟩
  cases op
  case bits.rlc => exact getLsbD_shiftLeft_or v (v.getLsbD 7) hi
  case bits.rrc => exact getLsbD_ushiftRight_or v (v.getLsbD 0) i
  case bits.rl => exact getLsbD_shiftLeft_or v cy hi
  case bits.rr => exact getLsbD_ushiftRight_or v cy i
  case bits.sla => exact shift8_sla v cy ▸ getLsbD_shiftLeft_or v false hi
  case bits.sra => exact getLsbD_ushiftRight_or v (v.getLsbD 7) i
  case bits.swap => exact getLsbD_swap v hi
  case bits.srl => exact shift8_srl v cy ▸ getLsbD_ushiftRight_or v false i

/-! #### Rotates and shifts -/

/-- What an accumulator rotate leaves (R240 to R243), for the four instructions that are one. -/
theorem rotateA_of_exec {i : Instr} {op : RotOp} {s : State} (hexec : exec i s = .next (s.rotateA op)) :
    ∃ t c, exec i s = .next t ∧ isShift op s.a s.cFlag t.a c ∧ flagsAre t false false false c ∧
      { t with a := s.a, f := s.f } = s :=
  ⟨_, _, hexec, isShift_shift8 op s.a s.cFlag, flagsAre_setFlags _ _, rfl⟩

/-- Settles O22: each form is the rotate of `A` (`State.rotateA`) by its row of R244's table. -/
theorem accumulatorRotatesClearZ : Obligations.AccumulatorRotatesClearZ := fun _ =>
  ⟨⟨described_of_encode rfl rfl rfl rfl, rotateA_of_exec (op := .rlc) rfl⟩,
    ⟨described_of_encode rfl rfl rfl rfl, rotateA_of_exec (op := .rrc) rfl⟩,
    ⟨described_of_encode rfl rfl rfl rfl, rotateA_of_exec (op := .rl) rfl⟩,
    ⟨described_of_encode rfl rfl rfl rfl, rotateA_of_exec (op := .rr) rfl⟩⟩

theorem reg_rotate (s : State) (op : RotOp) (r : Reg8) :
    (s.rotate op (.reg r)).reg r = (shift8 op (s.reg r) s.cFlag).1 :=
  reg_setReg_setFlags s r _ _

/-- The flags of an extended rotate or shift come from the computed result, whatever the operand keeps of it. -/
theorem flagsAre_rotate (s : State) (op : RotOp) (o : Operand8) :
    flagsAre (s.rotate op o) (decide ((shift8 op (s.operand o) s.cFlag).1 = 0)) false false
      (shift8 op (s.operand o) s.cFlag).2 :=
  flagsAre_setFlags _ _

/-- Settles O23: one `setReg` of the result of `shift8` and one flag write. -/
theorem shiftsOfARegister : Obligations.ShiftsOfARegister := by
  intro op r s
  refine ⟨described_rot_reg op r, _, (shift8 op (s.reg r) s.cFlag).2, exec_rot s op (.reg r), ?_⟩
  rw [reg_rotate]
  exact ⟨isShift_shift8 op (s.reg r) s.cFlag, flagsAre_rotate s op (.reg r), writesRegister_setReg_setFlags s r _ _⟩

/-- Settles O24: one program write at `HL`, which keeps `F`, and one flag write. -/
theorem shiftsOfTheByteAtHL : Obligations.ShiftsOfTheByteAtHL := fun op s =>
  ⟨described_rot_atHL op, _, _, _, exec_rot s op .atHL, isShift_shift8 op (s.read8 s.hl true) s.cFlag,
    setFlags_restoreF (s.write8_f _ _ _) _, flagsAre_rotate s op .atHL⟩

/-! #### Single bits -/

theorem flagsAre_testBit (s : State) (b : Idx3) (o : Operand8) :
    flagsAre (s.testBit b o) (!(s.operand o).getLsbD b.val) false true s.cFlag :=
  flagsAre_setFlags _ _

/-- Settles O25: a bit test is one flag write, in which C is the flag as it stood. -/
theorem bitTestsWriteOnlyFlags : Obligations.BitTestsWriteOnlyFlags := by
  refine fun b s => ⟨fun r => ?register, ?atHL⟩
  case register => exact ⟨described_bit_reg b r, _, exec_bit s b (.reg r), flagsAre_testBit s b (.reg r), rfl⟩
  case atHL => exact ⟨described_bit_atHL b, _, exec_bit s b .atHL, flagsAre_testBit s b .atHL, rfl⟩

theorem idx3_val_lt (b : Idx3) : b.val < 8 := by cases b <;> decide

/-- The mask of bit `b` (R263, R265). -/
theorem getLsbD_mask (b : Idx3) (i : Nat) : ((1 : Byte) <<< b.val).getLsbD i = decide (i = b.val) := by
  rw [show (1 : Byte) <<< b.val = BitVec.twoPow 8 b.val from rfl, BitVec.getLsbD_twoPow,
    decide_eq_true (idx3_val_lt b), Bool.true_and, decide_eq_decide]
  exact eq_comm

theorem getLsbD_resetBit (v : Byte) (b : Idx3) (i : Nat) :
    (v &&& ~~~((1 : Byte) <<< b.val)).getLsbD i = (decide (i ≠ b.val) && v.getLsbD i) := by
  rw [BitVec.getLsbD_and, BitVec.getLsbD_not, getLsbD_mask]
  by_cases hi : i < 8
  · simp [hi, Bool.and_comm]
  · simp [BitVec.getLsbD_of_ge v i (by omega)]

theorem getLsbD_raiseBit (v : Byte) (b : Idx3) (i : Nat) :
    (v ||| (1 : Byte) <<< b.val).getLsbD i = (decide (i = b.val) || v.getLsbD i) := by
  rw [BitVec.getLsbD_or, getLsbD_mask, Bool.or_comm]

/-- Settles O26: each form is one write of the operand, a `setReg` or the program write at `HL`, of the byte with one
bit changed; no condition guards the write. -/
theorem bitWritesChangeOneBit : Obligations.BitWritesChangeOneBit := by
  refine fun b s => ⟨fun r => ?resRegister, ?resAtHL, fun r => ?setRegister, ?setAtHL⟩
  case resRegister =>
    exact ⟨described_res_reg b r, _, _, exec_res s b (.reg r), writesRegister_setReg s r _,
      getLsbD_resetBit (s.reg r) b⟩
  case resAtHL => exact ⟨described_res_atHL b, _, exec_res s b .atHL, getLsbD_resetBit (s.read8 s.hl true) b⟩
  case setRegister =>
    exact ⟨described_set_reg b r, _, _, exec_set s b (.reg r), writesRegister_setReg s r _,
      getLsbD_raiseBit (s.reg r) b⟩
  case setAtHL => exact ⟨described_set_atHL b, _, exec_set s b .atHL, getLsbD_raiseBit (s.read8 s.hl true) b⟩

end Sys2Proof.Laws

/-! ### Family 45_control -/

namespace Sys2Proof.Laws

open Machine Safety

/-! #### The rows -/

theorem described_jpCond (nn : Word) (cc : Cond) :
    described (.jpCond nn cc) [op8 (0xC2 + 8 * condCode cc), nn.extractLsb' 0 8, nn.extractLsb' 8 8] 12 := by
  cases cc <;> exact described_of_encode rfl rfl rfl rfl

theorem described_jrCond (e : Byte) (cc : Cond) : described (.jrCond e cc) [op8 (0x20 + 8 * condCode cc), e] 8 := by
  cases cc <;> exact described_of_encode rfl rfl rfl rfl

theorem described_callCond (nn : Word) (cc : Cond) :
    described (.callCond nn cc) [op8 (0xC4 + 8 * condCode cc), nn.extractLsb' 0 8, nn.extractLsb' 8 8] 12 := by
  cases cc <;> exact described_of_encode rfl rfl rfl rfl

theorem described_retCond (cc : Cond) : described (.retCond cc) [op8 (0xC0 + 8 * condCode cc)] 8 := by
  cases cc <;> exact described_of_encode rfl rfl rfl rfl

theorem described_rst (t : Idx3) : described (.rst t) [op8 (0xC7 + 8 * t.val)] 16 := by
  cases t <;> exact described_of_encode rfl rfl rfl rfl

/-! #### The unconditional transfers -/

theorem exec_jp (nn : Word) (s : State) : exec (.jp nn) s = .next { s with pc := nn } := rfl

theorem exec_jp_HL (s : State) : exec .jp_HL s = .next { s with pc := s.hl } := rfl

theorem exec_jr (e : Byte) (s : State) : exec (.jr e) s = .next (s.jumpRelative e) := rfl

theorem exec_call (nn : Word) (s : State) : exec (.call nn) s = .next (s.callTo nn) := rfl

theorem exec_ret (s : State) : exec .ret s = .next s.returnTo := rfl

theorem exec_reti (s : State) : exec .reti s = .next s.returnFromInterrupt := rfl

/-- Settles O28: `JP` sets `PC` alone, and the sum of `JR` is that of `PCnext` and the displacement as an integer
(`toNat_add_sext16`). -/
theorem jumpsWriteOnlyPC : Obligations.JumpsWriteOnlyPC := by
  refine ⟨fun nn s => ?jp, fun s => ?jpHL, fun e s => ?jr⟩
  case jp => exact ⟨described_of_encode rfl rfl rfl rfl, exec_jp nn s⟩
  case jpHL => exact ⟨described_of_encode rfl rfl rfl rfl, exec_jp_HL s⟩
  case jr => exact ⟨described_of_encode rfl rfl rfl rfl, _, exec_jr e s, toNat_add_sext16 s.pc e, rfl⟩

/-- A call is the two program writes of `Push16` and the jump (R286). -/
theorem callTo_eq_writes (s : State) (target : Word) :
    s.callTo target =
      { ({ ({ s with sp := s.sp - 1 }.write8 (s.sp - 1) (hiByte s.pc) true) with sp := s.sp - 2 }).write8
          (s.sp - 2) (loByte s.pc) true with pc := target } := by
  rw [State.callTo, push16_eq_writes]

/-- Settles O30: `CALL` and the eight `RST` are `callTo` of their target, which pushes `PCnext` (R96). -/
theorem callsPushTheReturnAddress : Obligations.CallsPushTheReturnAddress := by
  refine ⟨fun nn s => ?call, fun t s => ?rst⟩
  case call =>
    exact ⟨described_of_encode rfl rfl rfl rfl, (exec_call nn s).trans (congrArg _ (callTo_eq_writes s nn))⟩
  case rst => exact ⟨described_rst t, (exec_rst s t).trans (congrArg _ (callTo_eq_writes s _))⟩

/-- Settles O31: both take `PC` from `Pop16` (R97), the low byte at `SP` and the high byte above it; `RETI` is the
return from an interrupt (R329). -/
theorem returnsPopPC : Obligations.ReturnsPopPC := fun s =>
  ⟨⟨described_of_encode rfl rfl rfl rfl, exec_ret s⟩, ⟨described_of_encode rfl rfl rfl rfl, exec_reti s⟩⟩

/-! #### The conditional transfers -/

theorem onlyIf_of_cond {s : State} {cc : Cond} (h : s.cond cc = true) (t : State) : s.onlyIf cc t = t :=
  if_pos h

theorem onlyIf_of_not_cond {s : State} {cc : Cond} (h : ¬ s.cond cc = true) (t : State) : s.onlyIf cc t = s :=
  if_neg h

theorem reportedCycles_of_cond {s : State} {i : Instr} {cc : Cond} (hi : i.condition = some cc)
    (h : s.cond cc = true) : s.reportedCycles i = i.baseCycles + s.takenExtra i.opcode := by
  simp only [State.reportedCycles, hi, if_pos h]

theorem reportedCycles_of_not_cond {s : State} {i : Instr} {cc : Cond} (hi : i.condition = some cc)
    (h : ¬ s.cond cc = true) : s.reportedCycles i = i.baseCycles := by
  simp only [State.reportedCycles, hi, if_neg h, Nat.add_zero]

/-- The four conditional transfers carry their condition in the opcode (R280). -/
theorem condition_of_mem_conditionals {cc : Cond} {nn : Word} {e : Byte} {i : Instr}
    (h : i ∈ [Instr.jpCond nn cc, .jrCond e cc, .callCond nn cc, .retCond cc]) : i.condition = some cc := by
  simp only [List.mem_cons, List.not_mem_nil, or_false] at h
  obtain rfl | rfl | rfl | rfl := h
  · exact condition_jpCond nn cc
  · exact condition_jrCond e cc
  · exact condition_callCond nn cc
  · exact condition_retCond cc

/-- Settles O29: the condition is that of `State.cond`, each form is `onlyIf` of the unconditional transfer's state, and
its report adds `TAKEN_EXTRA` under the same condition. -/
theorem conditionalTransfersFollowTheFlag : Obligations.ConditionalTransfersFollowTheFlag := by
  intro cc nn e s holds
  have hholds : holds ↔ s.cond cc = true := by
    cases cc <;> simp only [holds, State.cond, Bool.not_eq_true']
  rw [hholds]
  have hjp := exec_jpCond s nn cc
  have hjr := exec_jrCond s e cc
  have hcall := exec_callCond s nn cc
  have hret := exec_retCond s cc
  refine ⟨described_jpCond nn cc, described_jrCond e cc, described_callCond nn cc, described_retCond cc,
    fun h => ?taken, fun h => ?notTaken, ⟨_, hjp⟩, ⟨_, hjr⟩, ⟨_, hcall⟩, ⟨_, hret⟩, fun i hi => ?cycles⟩
  case taken =>
    rw [hjp, hjr, hcall, hret]
    simp only [onlyIf_of_cond h]
    exact ⟨(exec_jp nn s).symm, (exec_jr e s).symm, (exec_call nn s).symm, (exec_ret s).symm⟩
  case notTaken =>
    rw [hjp, hjr, hcall, hret]
    simp only [onlyIf_of_not_cond h, and_self]
  case cycles =>
    have hcondition := condition_of_mem_conditionals hi
    exact ⟨reportedCycles_of_cond hcondition, reportedCycles_of_not_cond hcondition⟩

end Sys2Proof.Laws

/-! ### Family 46_system -/

namespace Sys2Proof.Machine

open Laws

/-! #### `execute_one` and the step, from what `exec` answers (R300, R320) -/

theorem State.executeOne_of_halted {s : State} (h : s.halted = true) : s.executeOne = .next (s, Config.haltCost) :=
  if_pos h

theorem State.executeOne_of_exec_next {s t : State} (h : s.halted = false)
    (hexec : exec s.fetch (s.advancePC s.fetch) = .next t) : s.executeOne = .next (t, s.reportedCycles s.fetch) := by
  simp [State.executeOne, h, hexec]

theorem State.executeOne_of_exec_fault {s : State} {r : Fault} (h : s.halted = false)
    (hexec : exec s.fetch (s.advancePC s.fetch) = .fault r) : s.executeOne = .fault r := by
  simp [State.executeOne, h, hexec]

theorem step_of_executeOne_next {s t : State} {n : Nat} (h : s.checkInterrupt.executeOne = .next (t, n)) :
    step s = .next (t.endStep n) := by
  simp [step, h]

theorem step_of_executeOne_fault {s : State} {r : Fault} (h : s.checkInterrupt.executeOne = .fault r) :
    step s = .fault r := by
  simp [step, h]

/-! #### Illegal opcodes (R307) -/

theorem opcode_of_mem_illegalRows {i : Instr} {op : Byte} (h : (i, op) ∈ illegalRows) : i.opcode = op :=
  (by decide : ∀ row ∈ illegalRows, row.1.opcode = row.2) _ h

theorem length_of_mem_illegalRows {i : Instr} {op : Byte} (h : (i, op) ∈ illegalRows) : i.length = 0 :=
  (by decide : ∀ row ∈ illegalRows, row.1.length = 0) _ h

/-- No operand byte plays a part in an illegal row (R132). -/
theorem decodeAt_of_mem_illegalRows {i : Instr} {op : Byte} (h : (i, op) ∈ illegalRows) (b1 b2 : Byte) :
    decodeAt op b1 b2 = i := by
  simp only [illegalRows, List.mem_cons, Prod.mk.injEq, List.not_mem_nil, or_false] at h
  rcases h with h | h | h | h | h | h | h | h | h | h | h <;> obtain ⟨rfl, rfl⟩ := h <;> rfl

/-- An illegal opcode has no length, so `PC` is still its address when it faults. -/
theorem State.advancePC_illegal (s : State) {i : Instr} {op : Byte} (h : (i, op) ∈ illegalRows) : s.advancePC i = s := by
  rw [State.advancePC, length_of_mem_illegalRows h, BitVec.add_zero]

theorem State.executeOne_of_fetch_illegal {s : State} {op : Byte} (h : s.halted = false)
    (hfetch : (s.fetch, op) ∈ illegalRows) : s.executeOne = .fault (.illegalOpcode op s.pc) := by
  refine executeOne_of_exec_fault h ?_
  rw [s.advancePC_illegal hfetch, exec_illegal s hfetch]

/-- `execute_one` completes, unless it runs and has fetched an illegal opcode. -/
theorem State.executeOne_next_or_illegal (s : State) :
    (∃ t n, s.executeOne = .next (t, n)) ∨ s.halted = false ∧ ∃ op, (s.fetch, op) ∈ illegalRows := by
  cases hhalted : s.halted with
  | true => exact .inl ⟨_, _, executeOne_of_halted hhalted⟩
  | false =>
    rcases exec_next_or_illegal (s.advancePC s.fetch) s.fetch with ⟨t, hnext⟩ | hillegal
    · exact .inl ⟨t, _, executeOne_of_exec_next hhalted hnext⟩
    · exact .inr ⟨rfl, hillegal⟩

/-- A step completes, or faults with the illegal opcode that it has fetched in the running state. -/
theorem step_next_or_illegal (s : State) :
    (∃ t, step s = .next t) ∨
      s.checkInterrupt.halted = false ∧ ∃ op, (s.checkInterrupt.fetch, op) ∈ illegalRows ∧
        step s = .fault (.illegalOpcode op s.checkInterrupt.pc) := by
  rcases s.checkInterrupt.executeOne_next_or_illegal with ⟨t, n, hnext⟩ | ⟨hrun, op, hop⟩
  · exact .inl ⟨_, step_of_executeOne_next hnext⟩
  · exact .inr ⟨hrun, op, hop, step_of_executeOne_fault (State.executeOne_of_fetch_illegal hrun hop)⟩

/-- Settles O34: an illegal opcode is fetched whatever bytes follow it and faults with `PC` unmoved, and every other
instruction completes in every state (`exec_next_or_illegal`). -/
theorem onlyIllegalOpcodesStopTheMachine : Obligations.OnlyIllegalOpcodesStopTheMachine := by
  refine ⟨fun i op h => ⟨fun s => exec_illegal s h, decodeAt_of_mem_illegalRows h⟩, fun s => ⟨?fetched, ?fault, ?refused⟩⟩
  case fetched =>
    intro op hop hrun hread
    obtain ⟨⟨i, _⟩, hrow, rfl⟩ := List.mem_map.mp hop
    have hfetch : s.checkInterrupt.fetch = i := by
      rw [State.fetch, State.memRead, hread]
      exact decodeAt_of_mem_illegalRows hrow _ _
    exact step_of_executeOne_fault (State.executeOne_of_fetch_illegal hrun (hfetch ▸ hrow))
  case fault =>
    intro r hr
    rcases step_next_or_illegal s with ⟨t, ht⟩ | ⟨hrun, op, hop, hstep⟩
    · cases ht.symm.trans hr
    · cases hstep.symm.trans hr
      have hread := s.checkInterrupt.fetch_opcode.symm.trans (opcode_of_mem_illegalRows hop)
      exact ⟨hrun, op, List.mem_map_of_mem hop, hread, rfl⟩
  case refused =>
    intro r hr
    rcases step_next_or_illegal s with ⟨t, ht⟩ | ⟨-, op, -, hstep⟩
    · cases ht.symm.trans hr
    · cases hstep.symm.trans hr

/-- Settles O35: the decoded instruction is the fetched one (`State.fetch_of_decode`), executed with `PC` after it. -/
theorem stepRunsTheDecodedInstruction : Obligations.StepRunsTheDecodedInstruction := by
  rintro s u v t i rest rfl hrun rfl hdecode hexec
  obtain rfl : s.checkInterrupt.fetch = i := State.fetch_of_decode hdecode
  exact step_of_executeOne_next (State.executeOne_of_exec_next hrun hexec)

end Sys2Proof.Machine

namespace Sys2Proof.Laws

open Machine Safety

/-! #### The byte 0xCB -/

theorem exec_prefixCB_next (op2 : Byte) (s : State) : exec (.prefixCB op2) s = .next (s.extended op2) := rfl

/-- The 0xCB row and its entry have the same bytes, from which length and cost are read (R134). -/
theorem encode_prefixCB (op2 : Byte) : encode (.prefixCB op2) = encode (decodeExtended op2) :=
  (encode_decodeExtended op2).symm

theorem length_decodeExtended (op2 : Byte) : (decodeExtended op2).length = 2 := by
  rw [Instr.length, Instr.opcode, encode_decodeExtended]
  rfl

theorem baseCycles_prefixCB (op2 : Byte) : (Instr.prefixCB op2).baseCycles = (decodeExtended op2).baseCycles := by
  unfold Instr.baseCycles Instr.opcode Instr.secondByte
  rw [encode_prefixCB]

/-- Settles O27: the row of the extended table is decoded from its own bytes, and the 0xCB row is defined by it. -/
theorem prefixByteSelectsTheExtendedTable : Obligations.PrefixByteSelectsTheExtendedTable := by
  intro op2 s
  obtain ⟨-, hdecode, hlength, -⟩ := described_of_encode (decodeExtended_wellFormed op2) (encode_decodeExtended op2)
    (length_decodeExtended op2) rfl
  exact ⟨hdecode, exec_prefixCB s op2, ⟨_, exec_prefixCB_next op2 s⟩, rfl, hlength, baseCycles_prefixCB op2⟩

/-! #### The single rows -/

theorem exec_nop (s : State) : exec .nop s = .next s := rfl

theorem exec_stop (n : Byte) (s : State) : exec (.stop n) s = .next s := rfl

theorem exec_di (s : State) : exec .di s = .next { s with ime := false } := rfl

theorem exec_ei (s : State) : exec .ei s = .next { s with ime := true } := rfl

theorem exec_halt (s : State) : exec .halt s = .next { s with halted := true } := rfl

/-- Settles O32: the four rows, from their encodings, and what each of them executes to. -/
theorem nopStopDiEi : Obligations.NopStopDiEi := fun n s =>
  ⟨⟨described_of_encode rfl rfl rfl rfl, exec_nop s⟩, ⟨described_of_encode rfl rfl rfl rfl, exec_stop n s⟩,
    ⟨described_of_encode rfl rfl rfl rfl, exec_di s⟩, ⟨described_of_encode rfl rfl rfl rfl, exec_ei s⟩⟩

/-- Settles O33: `HALT` is one latch, and `execute_one` tests it before it fetches (R300 step 1). -/
theorem haltSuspendsDecode : Obligations.HaltSuspendsDecode :=
  ⟨fun s => ⟨described_of_encode rfl rfl rfl rfl, exec_halt s⟩, fun _ h => State.executeOne_of_halted h⟩

/-! #### Reported cycles (R308) -/

theorem reportedCycles_of_condition_none (s : State) {i : Instr} (hi : i.condition = none) :
    s.reportedCycles i = i.baseCycles := by
  simp only [State.reportedCycles, hi, Nat.add_zero]

theorem reportedCycles_of_condition_some (s : State) {cc : Cond} {i : Instr} (hi : i.condition = some cc) :
    s.reportedCycles i = i.baseCycles + (if s.cond cc then s.takenExtra i.opcode else 0) := by
  simp only [State.reportedCycles, hi]

/-- An opcode byte with a condition decodes to a conditional transfer: `conditionOf` and the opcode map read the same
fields (R130). -/
theorem decodeAt_conditional {op : Byte} {cc : Cond} (h : conditionOf op = some cc) (b1 b2 : Byte) :
    decodeAt op b1 b2 ∈ [Instr.jpCond (wordOf b1 b2) cc, .jrCond b1 cc, .callCond (wordOf b1 b2) cc, .retCond cc] := by
  unfold conditionOf at h
  split at h <;> cases h <;> simp [decodeAt, decodeX0, decodeX3, *]

/-- A well-formed instruction is the one decoded at its opcode, with some bytes after it. -/
theorem exists_decodeAt_of_wellFormed {i : Instr} (hwf : i.wellFormed = true) :
    ∃ b1 b2, decodeAt i.opcode b1 b2 = i := by
  cases hencode : encode i with
  | nil =>
    have hdecode := decodeInvertsEncode i [] hwf
    rw [hencode] at hdecode
    cases hdecode
  | cons op tail =>
    have hdecode := decodeInvertsEncode i [0, 0] hwf
    obtain ⟨b1, b2, rest, hbytes⟩ : ∃ b1 b2 rest, tail ++ [0, 0] = b1 :: b2 :: rest := by
      rcases tail with _ | ⟨_, _ | ⟨_, _⟩⟩ <;> exact ⟨_, _, _, rfl⟩
    rw [hencode, List.cons_append, hbytes, decode_three] at hdecode
    have hop : i.opcode = op := by rw [Instr.opcode, hencode, List.headD_cons]
    exact ⟨b1, b2, hop ▸ (Prod.mk.inj (Except.ok.inj hdecode)).1⟩

theorem condition_prefixCB (op2 : Byte) : (Instr.prefixCB op2).condition = none :=
  (by decide : conditionOf 0xCB = none)

theorem wellFormed_of_condition {i : Instr} {cc : Cond} (h : i.condition = some cc) : i.wellFormed = true := by
  unfold Instr.wellFormed Instr.notBareCB
  split
  next op2 => cases (condition_prefixCB op2).symm.trans h
  next => rfl

/-- The rows with a condition are the conditional transfers on it. -/
theorem conditional_of_condition {i : Instr} {cc : Cond} (h : i.condition = some cc) :
    ∃ nn e, i ∈ [Instr.jpCond nn cc, .jrCond e cc, .callCond nn cc, .retCond cc] := by
  obtain ⟨b1, b2, hi⟩ := exists_decodeAt_of_wellFormed (wellFormed_of_condition h)
  exact ⟨wordOf b1 b2, b1, hi ▸ decodeAt_conditional h b1 b2⟩

/-- A column whose entries are multiples of 4 is read as one, past its end too. -/
theorem getD_mod_four {column : List Nat} (h : ∀ x ∈ column, x % 4 = 0) (n : Nat) : column.getD n 0 % 4 = 0 := by
  rw [List.getD_eq_getElem?_getD]
  cases hx : column[n]? with
  | none => rfl
  | some x => exact h x (List.mem_of_getElem? hx)

theorem baseCycles_mod_four (i : Instr) : i.baseCycles % 4 = 0 := by
  rw [Instr.baseCycles]
  split
  case isTrue => exact getD_mod_four (by decide +kernel) _
  case isFalse => exact getD_mod_four (by decide +kernel) _

/-- Settles O36: a condition is carried by the conditional transfers alone, both cost columns hold multiples of 4, and
the parameters of reset have no entry of `TAKEN_EXTRA`. -/
theorem reportedCyclesAreTheTables : Obligations.ReportedCyclesAreTheTables := by
  refine ⟨fun s _ hi => reportedCycles_of_condition_none s hi, fun s _ _ hi => reportedCycles_of_condition_some s hi,
    fun i => ⟨?conditional, ?condition⟩, baseCycles_mod_four, fun _ => rfl⟩
  case conditional =>
    rintro ⟨cc, hcc⟩
    exact ⟨cc, conditional_of_condition hcc⟩
  case condition =>
    rintro ⟨cc, nn, e, hi⟩
    exact ⟨cc, condition_of_mem_conditionals hi⟩

end Sys2Proof.Laws

/-! ### Family 60_exceptions and 70_reset_and_hazards -/

namespace Sys2Proof.Machine

open Safety

/-! #### Internal reads and writes of the registers (R37, R83) -/

theorem storedValue_internal (a : Word) (v : Byte) : storedValue a v false = v := by simp [storedValue]

/-- A register written internally reads as written, `DIV` and `LY` too (R77, R78). -/
theorem RegisterCell.read_write_internal {a : Word} {x : Loc} (h : RegisterCell a x) (s : State) (v : Byte) :
    (s.write8 a v false).read8 a false = v :=
  (h.read_write s v false).trans (storedValue_internal a v)

/-- An internal read of a register depends on storage alone. -/
theorem RegisterCell.read_congr {a : Word} {x : Loc} (h : RegisterCell a x) {s t : State} (hmem : t.mem = s.mem) :
    t.read8 a false = s.read8 a false := by
  rw [h.read, h.read, State.cell, State.cell, hmem]

/-- The bit helper leaves the other registers (R83). -/
theorem RegisterCell.read_writeBit_other {a c : Word} {x y : Loc} (h : RegisterCell a x) (g : RegisterCell c y)
    (hne : x ≠ y) (hdma : c ≠ Config.DMA) (s : State) (b : Nat) (z : Bool) :
    (s.writeBit c b z).read8 a false = s.read8 a false :=
  h.read_write_other g hne hdma s _ false

theorem RegisterCell.read_writeBit {a : Word} {x : Loc} (h : RegisterCell a x) (s : State) (b : Nat) (z : Bool) :
    (s.writeBit a b z).read8 a false = setBit (s.read8 a false) b z :=
  h.read_write_internal s _

/-- A register other than `BOOT` does not reach the boot latch (R79). -/
theorem State.write8_bootDone_of_ne {a : Word} (h : a ≠ Config.BOOT) (s : State) (v : Byte) (prog : Bool) :
    (s.write8 a v prog).bootDone = s.bootDone := by
  rw [State.write8_bootDone, decide_eq_false h, Bool.and_false, Bool.false_and, Bool.or_false]

theorem State.writeBit_bootDone_of_ne {a : Word} (h : a ≠ Config.BOOT) (s : State) (b : Nat) (x : Bool) :
    (s.writeBit a b x).bootDone = s.bootDone :=
  s.write8_bootDone_of_ne h _ false

/-! #### Service (R324, R325) -/

/-- The vector table as the formula of R325. -/
theorem Source.vector_eq (i : Source) : i.vector = BitVec.ofNat 16 (0x40 + 8 * i.index) := by cases i <;> rfl

theorem Source.index_lt (i : Source) : i.index < 8 := by cases i <;> decide

/-- The bit that `write_bit(a, b, 0)` has cleared. -/
theorem getLsbD_setBit_false (v : Byte) {b : Nat} (hb : b < 8) : (setBit v b false).getLsbD b = false := by
  rw [setBit_false, BitVec.getLsbD_and, BitVec.getLsbD_not, BitVec.getLsbD_shiftLeft]
  simp [hb]

/-- Service by its writes: those of the push, then those of the two bits, then the engine's own (R324). -/
theorem State.service_eq_writes (s : State) (i : Source) :
    s.service i =
      { ((s.push16 s.pc).writeBit Config.IE i.index false).writeBit Config.IF i.index false with
        ime := false, pc := i.vector, inService := true } := rfl

theorem State.service_mem (s : State) (i : Source) :
    (s.service i).mem =
      (((s.push16 s.pc).writeBit Config.IE i.index false).writeBit Config.IF i.index false).mem := by
  rw [State.service_eq_writes]

/-- `IF` is written last, so its bit is the one of that write. -/
theorem State.service_IF_bit (s : State) (i : Source) :
    ((s.service i).read8 Config.IF false).getLsbD i.index = false := by
  rw [registerCell_IF.read_congr (s.service_mem i), registerCell_IF.read_writeBit]
  exact getLsbD_setBit_false _ i.index_lt

/-- The write of `IF` leaves `IE` as the write before it did. -/
theorem State.service_IE_bit (s : State) (i : Source) :
    ((s.service i).read8 Config.IE false).getLsbD i.index = false := by
  rw [registerCell_IE.read_congr (s.service_mem i),
    registerCell_IE.read_writeBit_other registerCell_IF (by decide) (by decide), registerCell_IE.read_writeBit]
  exact getLsbD_setBit_false _ i.index_lt

theorem State.reg_service (s : State) (i : Source) (r : Reg8) : (s.service i).reg r = s.reg r := by
  rw [State.service_eq]
  cases r <;> rfl

/-- Settles O38: `write_bit` of a bit to 0 is the write of the byte with the bit masked out (`setBit_false`), and the
rest is the frame of service (`State.service_eq`). -/
theorem serviceEntersTheHandler : Obligations.ServiceEntersTheHandler := by
  intro s i p q t
  have hstate : t = { q.write8 0xFF0F (q.read8 0xFF0F false &&& ~~~((1 : Byte) <<< i.index)) false with
      ime := false, pc := BitVec.ofNat 16 (0x40 + 8 * i.index), inService := true } := by
    simp only [t, q, p, State.service_eq_writes, State.writeBit, setBit_false, i.vector_eq]
  have hsp : (s.service i).sp = s.sp - 2 := by rw [State.service_eq]
  have hf : (s.service i).f = s.f := by rw [State.service_eq]
  exact ⟨hstate, hsp, s.reg_service i, hf, s.service_IE_bit i, s.service_IF_bit i⟩

/-! #### `check_interrupt` (R321, R322) -/

/-- The loop, while no source is in service. -/
theorem State.checkInterrupt_of_not_inService {s : State} (h : s.inService = false) :
    s.checkInterrupt =
      Source.all.foldl (State.checkSource (s.read8 Config.IE false) (s.read8 Config.IF false)) s := by
  simp [State.checkInterrupt, h]

theorem State.checkInterrupt_of_inService {s : State} (h : s.inService = true) : s.checkInterrupt = s := if_pos h

/-- Sources that are not both enabled and requested are passed over. -/
theorem State.checkSources_idle {en fl : Byte} {l : List Source} (s : State)
    (h : ∀ i ∈ l, (en.getLsbD i.index && fl.getLsbD i.index) = false) : l.foldl (State.checkSource en fl) s = s := by
  induction l with
  | nil => rfl
  | cons x l ih =>
    rw [List.foldl_cons, State.checkSource_idle s (h x List.mem_cons_self)]
    exact ih fun i hi => h i (List.mem_cons_of_mem x hi)

/-- With `IME` set, the first source that is both enabled and requested is serviced, and no other: service clears
`IME`. -/
theorem State.checkSources_serviced {en fl : Byte} {l₁ l₂ : List Source} {i : Source} {s : State}
    (hime : s.ime = true)
    (hidle : ∀ j ∈ l₁, (en.getLsbD j.index && fl.getLsbD j.index) = false)
    (hi : (en.getLsbD i.index && fl.getLsbD i.index) = true) :
    (l₁ ++ i :: l₂).foldl (State.checkSource en fl) s = { s.service i with halted := false } := by
  rw [List.foldl_append, State.checkSources_idle s hidle, List.foldl_cons, State.checkSource_serviced hime hi]
  have hmasked : (s.service i).ime = false := s.service_ime i
  generalize s.service i = t at hmasked
  rw [State.checkSources_masked en fl l₂ { t with halted := false } hmasked]
  exact ite_self _

theorem Source.mem_all (i : Source) : i ∈ Source.all := by cases i <;> decide

/-- The priority order is that of the indices: the sources before `i` are those of lower index (R331). -/
theorem Source.all_eq_append (i : Source) :
    ∃ l₁ l₂, Source.all = l₁ ++ i :: l₂ ∧ ∀ j ∈ l₁, j.index < i.index :=
  ⟨Source.all.take i.index, Source.all.drop (i.index + 1), by cases i <;> decide, by cases i <;> decide⟩

/-- Settles O39: nothing in service; then the loop passes over what is not pending (`checkSources_idle`), only wakes with
`IME` clear (`checkSources_masked`), and with `IME` set services the first pending source (`checkSources_serviced`). -/
theorem checkServicesTheLowestPendingSource : Obligations.CheckServicesTheLowestPendingSource := by
  refine ⟨fun s => State.checkInterrupt_of_inService, fun s hnone => ?nothing, fun s i hlatch hi hime => ?masked,
    fun s i hlatch hi hlow hime => ?lowest⟩
  case nothing =>
    cases hlatch : s.inService with
    | true => exact State.checkInterrupt_of_inService hlatch
    | false =>
      have hidle : ∀ i ∈ Source.all, pending s i = false := by simpa [nothingPending] using hnone
      rw [State.checkInterrupt_of_not_inService hlatch]
      exact State.checkSources_idle s hidle
  case masked =>
    rw [State.checkInterrupt_of_not_inService hlatch, State.checkSources_masked _ _ _ _ hime]
    exact if_pos (List.any_eq_true.2 ⟨i, i.mem_all, hi⟩)
  case lowest =>
    obtain ⟨l₁, l₂, hall, hbefore⟩ := i.all_eq_append
    rw [State.checkInterrupt_of_not_inService hlatch, hall]
    exact State.checkSources_serviced hime (fun j hj => hlow j (hbefore j hj)) hi

/-! #### The mid-service latch (R327) -/

@[simp] theorem State.setOperand_inService (s : State) (o : Operand8) (v : Byte) :
    (s.setOperand o v).inService = s.inService := by
  cases o with
  | reg r => exact s.setReg_inService r v
  | atHL => exact s.write8_inService s.hl v true

@[simp] theorem State.setPair_inService (s : State) (p : Pair) (v : Word) :
    (s.setPair p v).inService = s.inService := by
  cases p <;> rfl

@[simp] theorem State.popPair_inService (s : State) (p : StackPair) : (s.popPair p).inService = s.inService := by
  cases p <;> rfl

@[simp] theorem State.afterIndirect_inService (s : State) (i : Indirect) :
    (s.afterIndirect i).inService = s.inService := by
  cases i <;> rfl

@[simp] theorem State.push16_inService (s : State) (v : Word) : (s.push16 v).inService = s.inService := by
  rw [State.push16_eq]

@[simp] theorem State.callTo_inService (s : State) (nn : Word) : (s.callTo nn).inService = s.inService :=
  s.push16_inService s.pc

/-- The condition only chooses between two states. -/
theorem State.onlyIf_inService {s t : State} (cc : Cond) (h : t.inService = s.inService) :
    (s.onlyIf cc t).inService = s.inService := by
  unfold State.onlyIf
  split
  · exact h
  · rfl

/-- The extended table writes an operand, the flags, or both. -/
@[simp] theorem State.extended_inService (s : State) (op2 : Byte) : (s.extended op2).inService = s.inService := by
  unfold State.extended
  cases fieldX op2
  · exact s.setOperand_inService _ _
  · rfl
  · exact s.setOperand_inService _ _
  · exact s.setOperand_inService _ _

/-- The form in which each family answers: with a known next state that has the latch as it was. -/
theorem inService_of_exec {i : Instr} {s t u : State} (h : exec i s = .next t) (hexec : exec i s = .next u)
    (hu : u.inService = s.inService) : t.inService = s.inService := by
  obtain rfl : u = t := Host.Outcome.next.inj (hexec.symm.trans h)
  exact hu

/-- Settles O40: of the operations the instructions are made of, none but the return from an interrupt writes the
latch. -/
theorem onlyReturnFromInterruptClearsTheLatch : Obligations.OnlyReturnFromInterruptClearsTheLatch := by
  intro i s t h hne
  cases Laws.shape i with
  | reti => exact absurd rfl hne
  | illegal hi =>
    rw [Laws.exec_illegal s hi] at h
    cases h
  | ldFrom r o => exact inService_of_exec h (Laws.exec_ldFrom s r o) (s.setOperand_inService _ _)
  | ldStore r => exact inService_of_exec h (Laws.exec_ldStore s r) (s.setOperand_inService _ _)
  | ldImm n o => exact inService_of_exec h (Laws.exec_ldImm s n o) (s.setOperand_inService _ _)
  | inc o => exact inService_of_exec h (Laws.exec_inc s o) (s.setOperand_inService _ _)
  | dec o => exact inService_of_exec h (Laws.exec_dec s o) (s.setOperand_inService _ _)
  | rot op o => exact inService_of_exec h (Laws.exec_rot s op o) (s.setOperand_inService _ _)
  | res b o => exact inService_of_exec h (Laws.exec_res s b o) (s.setOperand_inService _ _)
  | set b o => exact inService_of_exec h (Laws.exec_set s b o) (s.setOperand_inService _ _)
  | bit b o => exact inService_of_exec h (Laws.exec_bit s b o) rfl
  | alu op o => exact inService_of_exec h (Laws.exec_alu s op o) rfl
  | aluImm n op => exact inService_of_exec h (Laws.exec_aluImm s n op) rfl
  | ldPair nn p => exact inService_of_exec h (Laws.exec_ldPair s nn p) (s.setPair_inService _ _)
  | incPair p => exact inService_of_exec h (Laws.exec_incPair s p) (s.setPair_inService _ _)
  | decPair p => exact inService_of_exec h (Laws.exec_decPair s p) (s.setPair_inService _ _)
  | addHL p => exact inService_of_exec h (Laws.exec_addHL s p) rfl
  | storeA x => exact inService_of_exec h (Laws.exec_storeA s x) (by simp [State.storeIndirect, State.memWrite])
  | loadA x => exact inService_of_exec h (Laws.exec_loadA s x) (State.afterIndirect_inService _ _)
  | push p => exact inService_of_exec h (Laws.exec_push s p) (s.push16_inService _)
  | pop p => exact inService_of_exec h (Laws.exec_pop s p) (s.popPair_inService p)
  | rst n => exact inService_of_exec h (Laws.exec_rst s n) (s.callTo_inService _)
  | jrCond e cc => exact inService_of_exec h (Laws.exec_jrCond s e cc) (State.onlyIf_inService cc rfl)
  | jpCond nn cc => exact inService_of_exec h (Laws.exec_jpCond s nn cc) (State.onlyIf_inService cc rfl)
  | retCond cc => exact inService_of_exec h (Laws.exec_retCond s cc) (State.onlyIf_inService cc rfl)
  | callCond nn cc =>
    exact inService_of_exec h (Laws.exec_callCond s nn cc) (State.onlyIf_inService cc (s.callTo_inService nn))
  | call nn => exact inService_of_exec h (Laws.exec_call nn s) (s.callTo_inService nn)
  | prefixCB op2 => exact inService_of_exec h (Laws.exec_prefixCB_next op2 s) (s.extended_inService op2)
  | ld_atNN_SP nn => cases h; simp [State.write16]
  | ld_atNN_A | ldh_atN_A | ldh_atC_A => cases h; exact State.write8_inService _ _ _ _
  | ld_HL_SPe | add_SP_e | rlca | rrca | rla | rra | daa | cpl | scf | ccf | nop | stop | jr | halt | ldh_A_atN | ret
  | jp_HL | ld_SP_HL | ldh_A_atC | ld_A_atNN | jp | di | ei => cases h; rfl

/-! #### The timer: the divider (R333, R334) -/

/-- At the end of its range `div_acc` starts again, and `DIV` is one higher, wrapping. -/
theorem State.tickDivider_carry {s : State} (h : s.divAcc = 255) :
    s.tickDivider.divAcc = 0 ∧ s.tickDivider.read8 Config.DIV false = s.read8 Config.DIV false + 1 := by
  rw [State.tickDivider, if_pos (by rw [h]), State.write8_divAcc]
  exact ⟨rfl, registerCell_DIV.read_write_internal _ _⟩

theorem State.tickDivider_step {s : State} (h : s.divAcc < 255) :
    s.tickDivider = { s with divAcc := s.divAcc + 1 } :=
  if_neg (by simpa using Nat.add_lt_add_right h 1)

/-- One cycle of the divider is one count, modulo 65536. -/
theorem dividerCycles_tickDivider {s : State} (h : s.divAcc ≤ 255) :
    dividerCycles s.tickDivider = (dividerCycles s + 1) % 65536 := by
  have hdiv := (s.read8 Config.DIV false).isLt
  rcases h.eq_or_lt with hcarry | hstep
  · obtain ⟨hacc, hread⟩ := State.tickDivider_carry hcarry
    rw [dividerCycles, dividerCycles, hacc, hread, hcarry, BitVec.toNat_add, show (1 : Byte).toNat = 1 from rfl]
    omega
  · have hread : { s with divAcc := s.divAcc + 1 }.read8 Config.DIV false = s.read8 Config.DIV false :=
      registerCell_DIV.read_congr rfl
    rw [State.tickDivider_step hstep, dividerCycles, dividerCycles, hread]
    dsimp only
    omega

/-! #### The timer: the counter (R335, R336) -/

theorem State.tickCounter_disabled {s : State} (h : ¬ (s.read8 Config.TAC false).getLsbD Config.tacEn = true) :
    s.tickCounter = s := if_neg h

theorem State.tickCounter_below {s : State} (hen : (s.read8 Config.TAC false).getLsbD Config.tacEn = true)
    (h : s.timaAcc + 1 < timaT (idx2 (s.read8 Config.TAC false).toNat)) :
    s.tickCounter = { s with timaAcc := s.timaAcc + 1 } := by
  rw [State.tickCounter, if_pos hen, if_neg (Nat.not_le.2 h)]

theorem State.tickCounter_threshold {s : State} (hen : (s.read8 Config.TAC false).getLsbD Config.tacEn = true)
    (h : timaT (idx2 (s.read8 Config.TAC false).toNat) ≤ s.timaAcc + 1) :
    s.tickCounter = { s with timaAcc := 0 }.tickTima := by
  rw [State.tickCounter, if_pos hen, if_pos h]

theorem State.tickTima_of_room {s : State} (h : s.read8 Config.TIMA false ≠ 0xFF) :
    s.tickTima = s.write8 Config.TIMA (s.read8 Config.TIMA false + 1) false := if_neg h

theorem State.tickTima_of_full {s : State} (h : s.read8 Config.TIMA false = 0xFF) :
    s.tickTima = ((s.write8 Config.TIMA (s.read8 Config.TMA false) false).writeBit Config.IE Config.timerSrc
      true).writeBit Config.IF Config.timerSrc true := if_pos h

theorem State.tickTima_timaAcc (s : State) : s.tickTima.timaAcc = s.timaAcc := by rw [State.tickTima_eq]

/-- An internal read of a register does not see `tima_acc`. -/
theorem RegisterCell.read_timaAcc {a : Word} {x : Loc} (h : RegisterCell a x) (s : State) (n : Nat) :
    { s with timaAcc := n }.read8 a false = s.read8 a false := h.read_congr rfl

/-- The registers that an increment or overflow of the counter writes are `TIMA`, `IE` and `IF`. -/
theorem RegisterCell.read_tickTima_other {a : Word} {x : Loc} (h : RegisterCell a x) (htima : x ≠ ⟨.io, 0, 0x05⟩)
    (hie : x ≠ ⟨.iereg, 0, 0⟩) (hif : x ≠ ⟨.io, 0, 0x0F⟩) (s : State) :
    s.tickTima.read8 a false = s.read8 a false := by
  by_cases hfull : s.read8 Config.TIMA false = 0xFF
  · rw [State.tickTima_of_full hfull, h.read_writeBit_other registerCell_IF hif (by decide),
      h.read_writeBit_other registerCell_IE hie (by decide), h.read_write_other registerCell_TIMA htima (by decide)]
  · rw [State.tickTima_of_room hfull, h.read_write_other registerCell_TIMA htima (by decide)]

/-- The counter does not reach the divider (R335). -/
theorem dividerCycles_tickCounter (s : State) : dividerCycles s.tickCounter = dividerCycles s := by
  have hread : s.tickCounter.read8 Config.DIV false = s.read8 Config.DIV false := by
    by_cases hen : (s.read8 Config.TAC false).getLsbD Config.tacEn = true
    · rcases Nat.lt_or_ge (s.timaAcc + 1) (timaT (idx2 (s.read8 Config.TAC false).toNat)) with hlt | hge
      · rw [State.tickCounter_below hen hlt, registerCell_DIV.read_timaAcc]
      · rw [State.tickCounter_threshold hen hge,
          registerCell_DIV.read_tickTima_other (by decide) (by decide) (by decide), registerCell_DIV.read_timaAcc s 0]
    · rw [State.tickCounter_disabled hen]
  rw [dividerCycles, dividerCycles, hread, State.tickCounter_eq]

theorem State.tickCounter_divAcc (s : State) : s.tickCounter.divAcc = s.divAcc := by rw [State.tickCounter_eq]

/-- Settles O53, by induction on the cycles: each is one count of the divider, which keeps `div_acc` in its range, and
the counter reaches neither. -/
theorem dividerCountsEveryCycle : Obligations.DividerCountsEveryCycle := by
  intro s n hacc
  induction n generalizing s with
  | zero =>
    have hdiv := (s.read8 Config.DIV false).isLt
    rw [State.tickTimer, dividerCycles]
    omega
  | succ n ih =>
    have hacc' : s.tickDivider.tickCounter.divAcc ≤ 255 := by
      rw [State.tickCounter_divAcc]
      exact s.tickDivider_divAcc
    rw [State.tickTimer, ih _ hacc', dividerCycles_tickCounter, dividerCycles_tickDivider hacc]
    omega

/-- Bit 2 of `TAC` in arithmetic (R43). -/
theorem tac_enabled_iff (v : Byte) : v.getLsbD Config.tacEn = true ↔ (v.toNat / 4) % 2 = 1 := by
  rw [BitVec.getLsbD, Nat.testBit_eq_decide_div_mod_eq, decide_eq_true_iff, show 2 ^ Config.tacEn = 4 from rfl]

/-- The thresholds of the four speeds (R337). -/
theorem timaT_idx2 (n : Nat) :
    timaT (idx2 n) = if n % 4 = 0 then 1024 else if n % 4 = 1 then 16 else if n % 4 = 2 then 64 else 256 := by
  have h : n % 4 < 4 := Nat.mod_lt _ (by decide)
  unfold idx2
  generalize n % 4 = j at h
  interval_cases j <;> rfl

/-- With room in `TIMA` the increment is one write, of `TIMA` (R335). -/
theorem State.tickTima_increment {s : State} (h : s.read8 Config.TIMA false ≠ 0xFF) :
    (s.tickTima.read8 Config.TIMA false).toNat = (s.read8 Config.TIMA false).toNat + 1 ∧
      s.tickTima.read8 Config.IE false = s.read8 Config.IE false ∧
      s.tickTima.read8 Config.IF false = s.read8 Config.IF false := by
  rw [State.tickTima_of_room h]
  refine ⟨?_, registerCell_IE.read_write_other registerCell_TIMA (by decide) (by decide) _ _ _,
    registerCell_IF.read_write_other registerCell_TIMA (by decide) (by decide) _ _ _⟩
  rw [registerCell_TIMA.read_write_internal]
  bv_omega

/-- The overflow is three writes, to three registers; each register reads what its own write left (R336). -/
theorem State.tickTima_overflow {s : State} (h : s.read8 Config.TIMA false = 0xFF) :
    s.tickTima.read8 Config.TIMA false = s.read8 Config.TMA false ∧
      s.tickTima.read8 Config.IE false = (s.read8 Config.IE false ||| 0x04) ∧
      s.tickTima.read8 Config.IF false = (s.read8 Config.IF false ||| 0x04) ∧
      s.tickTima.bootDone = s.bootDone := by
  have hbit (v : Byte) : setBit v Config.timerSrc true = v ||| 0x04 := setBit_true v 2
  rw [State.tickTima_of_full h]
  refine ⟨?counter, ?enable, ?request, ?latch⟩
  case counter =>
    rw [registerCell_TIMA.read_writeBit_other registerCell_IF (by decide) (by decide),
      registerCell_TIMA.read_writeBit_other registerCell_IE (by decide) (by decide),
      registerCell_TIMA.read_write_internal]
  case enable =>
    rw [registerCell_IE.read_writeBit_other registerCell_IF (by decide) (by decide), registerCell_IE.read_writeBit,
      registerCell_IE.read_write_other registerCell_TIMA (by decide) (by decide), hbit]
  case request =>
    rw [registerCell_IF.read_writeBit, registerCell_IF.read_writeBit_other registerCell_IE (by decide) (by decide),
      registerCell_IF.read_write_other registerCell_TIMA (by decide) (by decide), hbit]
  case latch =>
    rw [State.writeBit_bootDone_of_ne (by decide), State.writeBit_bootDone_of_ne (by decide),
      State.write8_bootDone_of_ne (by decide)]

/-- Settles O54: disabled, below the threshold, and at it with room in `TIMA` (`State.tickTima_increment`). -/
theorem counterCountsAtTheSelectedRate : Obligations.CounterCountsAtTheSelectedRate := by
  intro s tac threshold
  have hthreshold : timaT (idx2 tac) = threshold := timaT_idx2 tac
  have henabled : (s.read8 Config.TAC false).getLsbD Config.tacEn = true ↔ tac / 4 % 2 = 1 := tac_enabled_iff _
  refine ⟨fun hoff => ?disabled, fun hon hlt => ?below, fun hon hge htima => ?increment⟩
  case disabled => exact State.tickCounter_disabled fun hon => by have := henabled.1 hon; omega
  case below => exact State.tickCounter_below (henabled.2 hon) (hthreshold.symm ▸ hlt)
  case increment =>
    rw [State.tickCounter_threshold (henabled.2 hon) (hthreshold.symm ▸ hge), State.tickTima_timaAcc,
      ← registerCell_TIMA.read_timaAcc s 0, ← registerCell_IE.read_timaAcc s 0, ← registerCell_IF.read_timaAcc s 0]
    exact ⟨rfl, State.tickTima_increment ((registerCell_TIMA.read_timaAcc s 0).trans_ne htima)⟩

/-- Settles O55: at the threshold with `TIMA` full (`State.tickTima_overflow`), within the frame of the counter
(`State.tickCounter_eq`). -/
theorem counterOverflowReloadsAndRequests : Obligations.CounterOverflowReloadsAndRequests := by
  intro s tac threshold hon hge htima
  have hthreshold : timaT (idx2 tac) = threshold := timaT_idx2 tac
  have hcounter : s.tickCounter = { s with timaAcc := 0 }.tickTima :=
    State.tickCounter_threshold ((tac_enabled_iff _).2 hon) (hthreshold.symm ▸ hge)
  obtain ⟨htima', hie, hif, hboot⟩ := State.tickTima_overflow ((registerCell_TIMA.read_timaAcc s 0).trans htima)
  have hframe : sameOutsideStorage s { s.tickCounter with timaAcc := s.timaAcc } := by
    rw [sameOutsideStorage, State.tickCounter_eq]
  rw [← hcounter, registerCell_TMA.read_timaAcc s 0] at htima'
  rw [← hcounter, registerCell_IE.read_timaAcc s 0] at hie
  rw [← hcounter, registerCell_IF.read_timaAcc s 0] at hif
  rw [← hcounter] at hboot
  exact ⟨by rw [hcounter, State.tickTima_timaAcc], htima', hie, hif, hboot, hframe⟩

/-! #### The hang (R382) -/

/-- The end of a step leaves the engine alone: the timer and the peripherals write storage and fields of their own. -/
theorem State.endStep_engine (s : State) (n : Nat) :
    (s.endStep n).pc = s.pc ∧ (s.endStep n).sp = s.sp ∧ (s.endStep n).ime = s.ime ∧ (s.endStep n).f = s.f ∧
      (s.endStep n).halted = s.halted ∧ (s.endStep n).inService = s.inService ∧ (s.endStep n).lastCycles = n ∧
      ∀ r, (s.endStep n).reg r = s.reg r := by
  rw [State.endStep, State.peripherals_eq, State.tickTimer_eq]
  exact ⟨rfl, rfl, rfl, rfl, rfl, rfl, rfl, fun r => by cases r <;> rfl⟩

/-- Settles O41: with the latch set `check_interrupt` does nothing, halted `execute_one` does nothing, and there remains
the end of a step of 4 cycles. -/
theorem haltInsideAHandlerHangs : Obligations.HaltInsideAHandlerHangs := by
  intro s h
  obtain ⟨hhalted, hlatch⟩ : s.halted = true ∧ s.inService = true := by simpa [hung] using h
  have hexec : s.checkInterrupt.executeOne = .next (s, 4) := by
    rw [State.checkInterrupt_of_inService hlatch, State.executeOne_of_halted hhalted]
  obtain ⟨hpc, hsp, hime, hf, hhalted', hlatch', hcycles, hreg⟩ := s.endStep_engine 4
  refine ⟨s.endStep 4, step_of_executeOne_next hexec, ?_, hcycles, hpc, hsp, hime, hf, hreg⟩
  rw [hung, hhalted', hlatch', hhalted, hlatch]
  rfl

end Sys2Proof.Machine
